-- ==== Sys2Proof/Word.lean ====
section
/-! DEFINITION. The widths of the block (R5, R6 of spec/00_scope.md) and the words a step is read from. -/

namespace Sys2Proof

/-- `W`: the width of the output port and of every pin mask, and the number of channel slots (R5, D1). -/
abbrev W : Nat := 8

/-- `NPOS`: frame bit positions, the number of entries of the bit-plane store (R5). -/
abbrev NPOS : Nat := 16

/-- A pin mask, the output port, `attached_pins` or a store entry: bit `p` belongs to pin `p` (R32). -/
abbrev Mask := BitVec 8

/-- A pin index `p`, 0 to 7: three bits (R13, R52). -/
abbrev Pin := Fin 8

/-- A frame bit position or slot, 0 to 15: four bits, position 0 first on the wire (R6, R31). -/
abbrev Pos := Fin 16

/-- A throttle, 0 to 2047: eleven bits, so a larger one cannot be written (R5, R74, D4). -/
abbrev Throttle := BitVec 11

/-- A frame (packet): sixteen bits (R5, R31). -/
abbrev Frame := BitVec 16

/-- A command word `CMD` of format CMD16 (R50). -/
abbrev CmdWord := BitVec 16

/-- A timer register: `TIMER_BITS` = 16 (R5, R19). -/
abbrev TimerWord := BitVec 16

/-- A word as one of the five formats carries it (R50, R55, R56, R57). Each format is read at a place of its own:
the command port, `hst`, `seq`, the timer's strobe, the environment's move. -/
inductive FetchWord where
  /-- CMD16: the word written to the command port (R50). -/
  | cmd16 (w : BitVec 16)
  /-- HST7: the value of `hst`, which selects the next host micro-step (R55). -/
  | hst7 (w : BitVec 7)
  /-- SEQ6: the value of `seq`, which selects the next transmitter micro-operation (R56). -/
  | seq6 (w : BitVec 6)
  /-- EVT1: the timer's compare-match strobe (R57). -/
  | evt1 (w : BitVec 1)
  /-- ENV8: the value the environment offers to PORT (R57). -/
  | env8 (w : BitVec 8)
  deriving DecidableEq, Repr

end Sys2Proof
end

