-- ==== Sys2Proof/Syntax.lean ====
section
/-! DEFINITION. The steps of the block: one constructor for each row of spec/opcode_table.json (R58), the reasons a
word is reserved (R53 to R56), and the assembler lines of R60 and R61. An operand's type is its field's width, so
an `Instr` with an operand out of range cannot be written (R52, R74). -/

namespace Sys2Proof

/-- The sixteen steps, in the order of spec/opcode_table.json. -/
inductive Instr where
  /-- ATTACH `p`: the whole command (R81). -/
  | attach (p : Pin)
  /-- SET_THROTTLE `p, t`: the whole command (R85). -/
  | setThrottle (p : Pin) (t : Throttle)
  /-- ENCODE `t`: the whole command (R88). -/
  | encode (t : Throttle)
  /-- ISSUE: decode of the word on the command port (R80). -/
  | issue
  /-- AT_SETUP: one-time setup, Idle to Armed (R82). -/
  | atSetup
  /-- AT_INIT: channel initialisation (R83). -/
  | atInit
  /-- AT_REG: registration into `attached_pins` (R84). -/
  | atReg
  /-- ST_LATCH: store throttle and packet (R86). -/
  | stLatch
  /-- ST_UPD(`i`): update of one store entry (R87). -/
  | stUpd (i : Pos)
  /-- ENC_EXEC: the one micro-step of ENCODE (R88). -/
  | encExec
  /-- TX_START: entry into the handler (R102). -/
  | txStart
  /-- TX_HIGH(`i`) (R103). -/
  | txHigh (i : Pos)
  /-- TX_DATA(`i`), the bit-plane multiplexer (R104). -/
  | txData (i : Pos)
  /-- TX_LOW(`i`) (R105). -/
  | txLow (i : Pos)
  /-- TIMER_MATCH: the timer's compare match (R100). -/
  | timerMatch
  /-- ENV_PORT(`v`): the environment's move on PORT (R109). -/
  | envPort (v : Mask)
  deriving DecidableEq, Repr

/-- What a command word asks for: the three rows of format CMD16 (R51). -/
inductive Command where
  /-- ATTACH `p`. -/
  | attach (p : Pin)
  /-- SET_THROTTLE `p, t`. -/
  | setThrottle (p : Pin) (t : Throttle)
  /-- ENCODE `t`. -/
  | encode (t : Throttle)
  deriving DecidableEq, Repr

/-- The step of the opcode table that is the whole command (R81, R85, R88). -/
def Command.instr : Command → Instr
  | .attach p => .attach p
  | .setThrottle p t => .setThrottle p t
  | .encode t => .encode t

/-- Why a word is no step: the decoder rejects by these names. -/
inductive Reserved where
  /-- CMD16 with `op = 0b00` (R54). -/
  | opZero
  /-- CMD16 ATTACH with a throttle field that is not 0 (R53, R54). -/
  | attachThrottle
  /-- CMD16 ENCODE with a pin field that is not 0 (R53, R54). -/
  | encodePin
  /-- HST7 with stage `0b111` (R16, R55, U15). -/
  | hstStage
  /-- HST7 with `idx != 0` outside S_UPD (R55, U15). -/
  | hstIdx
  /-- SEQ6 with phase IDLE and `slot != 0` (R15, R56, U15). -/
  | seqSlot
  /-- EVT1 with `match = 0`: no event (R57). -/
  | noMatch
  deriving DecidableEq, Repr

/-- An assembler line (R60) or macro (R61) as it is typed, its operands numbers of any size. -/
inductive Line where
  /-- `ATTACH p`. -/
  | attach (p : Nat)
  /-- `SET_THROTTLE p, t`. -/
  | setThrottle (p t : Nat)
  /-- `ENCODE t`. -/
  | encode (t : Nat)
  /-- `ISSUE w`: the schedule line that issues the command word `w`. -/
  | issue (w : Nat)
  /-- `AT_SETUP`. -/
  | atSetup
  /-- `AT_INIT`. -/
  | atInit
  /-- `AT_REG`. -/
  | atReg
  /-- `ST_LATCH`. -/
  | stLatch
  /-- `ST_UPD i`. -/
  | stUpd (i : Nat)
  /-- `ENC_EXEC`. -/
  | encExec
  /-- `TX_START`. -/
  | txStart
  /-- `TX_HIGH i`. -/
  | txHigh (i : Nat)
  /-- `TX_DATA i`. -/
  | txData (i : Nat)
  /-- `TX_LOW i`. -/
  | txLow (i : Nat)
  /-- `TIMER_MATCH`. -/
  | timerMatch
  /-- `ENV_PORT v`. -/
  | envPort (v : Nat)
  /-- `TRANSMIT`: TX_START and the 48 port writes (R61). -/
  | transmit
  /-- `TICK`: TIMER_MATCH, then TRANSMIT (R61). -/
  | tick
  deriving DecidableEq, Repr

end Sys2Proof
end

