-- ==== Sys2Proof/WellFormed.lean ====
section
/-! DEFINITION. What may be read or typed: the words that are not reserved (R51, R53 to R57 of
spec/30_encoding.md) and the assembler lines whose operands have an encoding (R52, R60). An `Instr` needs no check:
its operands' types are the widths of its fields. -/

namespace Sys2Proof

/-- A word that is a step of its format, by the match and mask of spec/opcode_table.json's rows (R51, R55, R56,
R57). -/
def FetchWord.wf : FetchWord → Bool
  | .cmd16 w => w &&& 0xC7FF == 0x4000 || w &&& 0xC000 == 0x8000 || w &&& 0xF800 == 0xC000
  | .hst7 w =>
    w == 0x00 || w == 0x10 || w == 0x20 || w == 0x30 || w == 0x40 || w &&& 0x70 == 0x50 || w == 0x60
  | .seq6 w => w == 0x00 || w &&& 0x30 == 0x10 || w &&& 0x30 == 0x20 || w &&& 0x30 == 0x30
  | .evt1 w => w == 1
  | .env8 _ => true

/-- A line whose every operand is in range: "Operands out of range are an assembler error" (R60). -/
def Line.wf : Line → Bool
  | .attach p => decide (p < 8)
  | .setThrottle p t => decide (p < 8) && decide (t < 2048)
  | .encode t => decide (t < 2048)
  | .issue w => decide (w < 65536)
  | .stUpd i => decide (i < 16)
  | .txHigh i => decide (i < 16)
  | .txData i => decide (i < 16)
  | .txLow i => decide (i < 16)
  | .envPort v => decide (v < 256)
  | .atSetup => true
  | .atInit => true
  | .atReg => true
  | .stLatch => true
  | .encExec => true
  | .txStart => true
  | .timerMatch => true
  | .transmit => true
  | .tick => true

end Sys2Proof
end

