-- ==== Sys2Proof/Decode.lean ====
section
/-! DEFINITION. The decoder of the five formats, total, rejecting by name (R50 to R57 of spec/30_encoding.md), and
after it the encoder, written from the same tables. -/

namespace Sys2Proof

/-- `p = CMD[13:11]` (R52). -/
def cmdPinField (w : CmdWord) : Pin := (w.extractLsb' 11 3).toFin

/-- `t = CMD[10:0]` (R52). -/
def cmdThrField (w : CmdWord) : Throttle := w.extractLsb' 0 11

/-- A command word (R51): the match and mask of the three CMD16 rows, and what the other words are (R53, R54). -/
def decodeCmd (w : CmdWord) : Except Reserved Command :=
  if w &&& 0xC7FF = 0x4000 then .ok (.attach (cmdPinField w))
  else if w &&& 0xC000 = 0x8000 then .ok (.setThrottle (cmdPinField w) (cmdThrField w))
  else if w &&& 0xF800 = 0xC000 then .ok (.encode (cmdThrField w))
  else if w &&& 0xC000 = 0x0000 then .error .opZero
  else if w &&& 0xC000 = 0x4000 then .error .attachThrottle
  else .error .encodePin

/-- The value of `hst` (R55): stage in bits 6:4, `idx` in bits 3:0. -/
def decodeHst (w : BitVec 7) : Except Reserved Instr :=
  if w = 0x00 then .ok .issue
  else if w = 0x10 then .ok .atSetup
  else if w = 0x20 then .ok .atInit
  else if w = 0x30 then .ok .atReg
  else if w = 0x40 then .ok .stLatch
  else if w &&& 0x70 = 0x50 then .ok (.stUpd (w.extractLsb' 0 4).toFin)
  else if w = 0x60 then .ok .encExec
  else if w &&& 0x70 = 0x70 then .error .hstStage
  else .error .hstIdx

/-- The value of `seq` (R56): phase in bits 5:4, slot in bits 3:0. -/
def decodeSeq (w : BitVec 6) : Except Reserved Instr :=
  if w = 0x00 then .ok .txStart
  else if w &&& 0x30 = 0x10 then .ok (.txHigh (w.extractLsb' 0 4).toFin)
  else if w &&& 0x30 = 0x20 then .ok (.txData (w.extractLsb' 0 4).toFin)
  else if w &&& 0x30 = 0x30 then .ok (.txLow (w.extractLsb' 0 4).toFin)
  else .error .seqSlot

/-- The step a word stands for in its format, or why it stands for none. -/
def decode : FetchWord → Except Reserved Instr
  | .cmd16 w => (decodeCmd w).map Command.instr
  | .hst7 w => decodeHst w
  | .seq6 w => decodeSeq w
  | .evt1 w => if w = 1 then .ok .timerMatch else .error .noMatch
  | .env8 v => .ok (.envPort v)

/-- The format in which a word of `nbits` bits is read. The spec's widths 16, 7, 6 and 1 name their format. Eight
bits are ENV8's width and, in whole bytes, also those of HST7, SEQ6 and EVT1, whose words overlap (R55 to R57): the
first of these formats that has a step for the byte is taken (log 3). -/
def tableWord (nbits w : Nat) : Option FetchWord :=
  if 2 ^ nbits ≤ w then none
  else if nbits = 16 then some (.cmd16 (BitVec.ofNat 16 w))
  else if nbits = 7 then some (.hst7 (BitVec.ofNat 7 w))
  else if nbits = 6 then some (.seq6 (BitVec.ofNat 6 w))
  else if nbits = 1 then some (.evt1 (BitVec.ofNat 1 w))
  else if nbits = 8 then
    if w < 128 && (FetchWord.hst7 (BitVec.ofNat 7 w)).wf then some (.hst7 (BitVec.ofNat 7 w))
    else if w < 64 && (FetchWord.seq6 (BitVec.ofNat 6 w)).wf then some (.seq6 (BitVec.ofNat 6 w))
    else if w < 2 && (FetchWord.evt1 (BitVec.ofNat 1 w)).wf then some (.evt1 (BitVec.ofNat 1 w))
    else some (.env8 (BitVec.ofNat 8 w))
  else none

/-- The instruction the decoder reads from a row's word. -/
def decodeTableWord (nbits w : Nat) : Option Instr :=
  match tableWord nbits w with
  | none => none
  | some fw =>
    match decode fw with
    | .ok i => some i
    | .error _ => none

/-- The command word `{op, pin, thr}` (R50). -/
def cmdWord (op : BitVec 2) (p : Pin) (t : Throttle) : CmdWord :=
  (op ++ (BitVec.ofFin p : BitVec 3)) ++ t

/-- The word of a step, in its format (R51, R55, R56, R57). -/
def encode : Instr → FetchWord
  | .attach p => .cmd16 (cmdWord 0b01 p 0)
  | .setThrottle p t => .cmd16 (cmdWord 0b10 p t)
  | .encode t => .cmd16 (cmdWord 0b11 0 t)
  | .issue => .hst7 0b0000000
  | .atSetup => .hst7 0b0010000
  | .atInit => .hst7 0b0100000
  | .atReg => .hst7 0b0110000
  | .stLatch => .hst7 0b1000000
  | .stUpd i => .hst7 (0b101#3 ++ (BitVec.ofFin i : BitVec 4))
  | .encExec => .hst7 0b1100000
  | .txStart => .seq6 0b000000
  | .txHigh i => .seq6 (0b01#2 ++ (BitVec.ofFin i : BitVec 4))
  | .txData i => .seq6 (0b10#2 ++ (BitVec.ofFin i : BitVec 4))
  | .txLow i => .seq6 (0b11#2 ++ (BitVec.ofFin i : BitVec 4))
  | .timerMatch => .evt1 1
  | .envPort v => .env8 v

end Sys2Proof
end

