-- ==== Sys2Proof/Config.lean ====
section
/-! DEFINITION. The parameters of the block (R5 of spec/00_scope.md) and the values the spec leaves unspecified
(U9, U10, U12, U13 of spec/93_implementation_defined.md). A constant without a body is a value no proof can see. -/

namespace Sys2Proof.Config

/-- `BP_FILL`: what every store entry holds at reset and after one-time setup, all ones (R5, D2, conflict C1). -/
def bpFill : Mask := 0xFF

/-- `F_TICK`: the rate of the transmission tick in Hz (R5). -/
def fTick : Nat := 1000

/-- The OPEN timing parameters of R5: the clock in Hz, the three holds and the interrupt latency in cycles. -/
structure Timing where
  /-- `F_CLK`, Hz. -/
  fClk : Nat
  /-- `N_H`: cycles PORT holds the value TX_HIGH wrote. -/
  nH : Nat
  /-- `N_D`: cycles PORT holds the value TX_DATA wrote. -/
  nD : Nat
  /-- `N_L`: cycles PORT holds the value TX_LOW wrote. -/
  nL : Nat
  /-- `L_ISR`: cycles from TX_START to the first TX_HIGH. -/
  lIsr : Nat
  deriving DecidableEq, Repr, Inhabited

/-- `TICK_PERIOD = F_CLK / F_TICK`, cycles between two timer matches (R5). -/
def Timing.tickPeriod (t : Timing) : Nat := t.fClk / fTick

/-- `N_BIT = N_H + N_D + N_L`, cycles of one bit slot (R5). -/
def Timing.nBit (t : Timing) : Nat := t.nH + t.nD + t.nL

/-- The exact constraints R5 puts on the OPEN parameters: `F_CLK` a multiple of `F_TICK`, the period within the
16-bit counter, every hold at least one cycle, and the transmission inside a tick period (R148). The document's
"≈" constraints carry no tolerance (N30) and are not among them (log 14). -/
def Timing.ok (t : Timing) : Bool :=
  t.fClk % fTick == 0 && decide (t.tickPeriod ≤ 2 ^ 16) && decide (1 ≤ t.nH) && decide (1 ≤ t.nD) &&
    decide (1 ≤ t.nL) && decide (t.lIsr + 16 * t.nBit < t.tickPeriod)

/-- The spec's example set (R5, D14): 16 MHz, holds 10, 10 and 7, latency 0. -/
def exampleTiming : Timing := { fClk := 16000000, nH := 10, nD := 10, nL := 7, lIsr := 0 }

/-- The parameters as an implementation chooses them: any values at all (U13). -/
opaque chosenTiming : Timing

/-- The OPEN timing parameters: any choice that meets R5's constraints (a choice that does not is none, and the
spec's example stands in for it, so that the constraints hold of this constant). -/
def timing : Timing := if chosenTiming.ok then chosenTiming else exampleTiming

/-- `PORT_RESET`: the value of PORT after reset, any value (R14, U12, D16). -/
opaque portReset : Mask

/-- `cmd_pin` after reset, any value (R25, U9). -/
opaque resetCmdPin : Pin

/-- `cmd_thr` after reset, any value (R25, U9). -/
opaque resetCmdThr : Throttle

/-- `irq_en` after reset, any value (R17, R25, U9). -/
opaque resetIrqEn : Bool

/-- `tcmp` after reset, any value (R19, R25, U9). -/
opaque resetTcmp : TimerWord

/-- `RSP` after reset, any value (R20, R25, U9). -/
opaque resetRsp : Frame

/-- What `packet[p]` reads as while no ATTACH has created the slot of pin `p`, any value (R13, U9). -/
opaque unwrittenPacket : Pin → Frame

/-- What the host's `n`-th read of `RSP` gives while `rsp_valid = 0`, any value (R152, U10). -/
opaque unspecifiedRsp : Nat → Frame

end Sys2Proof.Config
end

