-- ==== Sys2Proof/Machine/State.lean ====
section
/-! DEFINITION. The state of the block (spec/10_state.md, R10 to R25), as plain data, and its value after reset. -/

namespace Sys2Proof.Machine

/-- `seq`, the transmitter sequencer (R15): the next transmitter micro-operation. The type leaves out the
unreachable `phase = IDLE` with `slot != 0` (R15, U15). -/
inductive Seq where
  /-- IDLE, slot 0. -/
  | idle
  /-- HIGH: next is TX_HIGH(`slot`). -/
  | high (slot : Pos)
  /-- DATA: next is TX_DATA(`slot`). -/
  | data (slot : Pos)
  /-- LOW: next is TX_LOW(`slot`). -/
  | low (slot : Pos)
  deriving DecidableEq, Repr

/-- `hst`, the host command sequencer (R16): the next host micro-step. `idx` is 0 in every stage but S_UPD; the
type leaves out the unreachable values (R16, R55, U15). -/
inductive Hst where
  /-- READY: next is ISSUE. -/
  | ready
  /-- S_SETUP: next is AT_SETUP. -/
  | setup
  /-- S_INIT: next is AT_INIT. -/
  | init
  /-- S_REG: next is AT_REG. -/
  | reg
  /-- S_LATCH: next is ST_LATCH. -/
  | latch
  /-- S_UPD: next is ST_UPD(`idx`). -/
  | upd (idx : Pos)
  /-- S_ENC: next is ENC_EXEC. -/
  | enc
  deriving DecidableEq, Repr

/-- One slot of the channel file (R13). `pin_mask` is the constant `mask(p)` and is not stored. -/
structure Channel where
  /-- The last commanded throttle. -/
  throttle : Throttle
  /-- The last encoded frame. -/
  packet : Frame
  deriving DecidableEq, Repr

/-- The move an agent makes next (R8, R38). Which enabled step comes next is open; a list of moves is one answer
(log 1). -/
inductive Move where
  /-- The host runs the command `w` whole, with no transmission inside it (R61; log 5). -/
  | command (w : CmdWord)
  /-- The host writes `w` to the command port: ISSUE (R50, R80). -/
  | issue (w : CmdWord)
  /-- The host makes the micro-step named by `hst` (R16, R55). -/
  | host
  /-- The transmitter makes the micro-operation named by `seq` (R15, R56). -/
  | transmitter
  /-- The timer raises its strobe, at any time (untimed view, R101). -/
  | timer
  /-- The environment offers `v` to PORT (R109). -/
  | env (v : Mask)
  /-- One clock cycle passes (cycle-timed view, R100, R108). `take` says whether a pending tick may be accepted in
  it: the spec fixes no latency from the match to TX_START (R122). -/
  | clock (take : Bool)
  deriving DecidableEq, Repr

/-- The state. Fields are the spec's but for the last three, which are the model's (logs 1 and 16). -/
structure State where
  /-- `bit_plane[0..15]`, the bit-plane store (R10). -/
  bitPlane : Vector Mask 16
  /-- `attached_pins` (R11). -/
  attachedPins : Mask
  /-- `timer_active`: Idle or Armed (R12). -/
  timerActive : Bool
  /-- The channel file (R13): slot `p`, absent until AT_INIT of pin `p` creates it. -/
  chan : Vector (Option Channel) 8
  /-- `PORT`, the output latch (R14). -/
  port : Mask
  /-- `seq` (R15). -/
  seq : Seq
  /-- `hst` (R16). -/
  hst : Hst
  /-- `cmd_pin` (R16). -/
  cmdPin : Pin
  /-- `cmd_thr` (R16). -/
  cmdThr : Throttle
  /-- `irq_en`, the global interrupt enable (R17). -/
  irqEn : Bool
  /-- `tick_pending`, the timer interrupt's pending flag (R18). -/
  tickPending : Bool
  /-- `tcnt`, the timer's count (R19). -/
  tcnt : TimerWord
  /-- `tcmp`, the timer's compare value (R19). -/
  tcmp : TimerWord
  /-- `RSP`, the response register (R20). -/
  rsp : Frame
  /-- `rsp_valid` (R20). -/
  rspValid : Bool
  /-- The word the host presents on the command port `CMD`, if any (R30, R50; log 19). -/
  cmd : Option CmdWord
  /-- The model's: cycles left before the next transmitter event of the timed view (R108; log 16). -/
  hold : Nat
  /-- The model's: the last `N_L` hold of a timed transmission is running (R108, D26; log 16). -/
  draining : Bool
  /-- The model's: the moves still to be made, oldest first (R38; log 1). -/
  sched : List Move
  deriving DecidableEq, Repr

/-- Why the machine stops with a fault: never. The block raises no exception and has no fault mechanism (R120), so
the type is empty (log 23; safe: nothing can be claimed of a fault). -/
inductive Fault
  deriving DecidableEq, Repr

/-- Why a step has no meaning (`refuse`, R7; R120: "A refusal is not an exception"). -/
inductive Refusal where
  /-- Raised by `exec` for an instruction without a meaning; no arm does. Safe: it stops. -/
  | notModelled (mnemonic : String)
  /-- Raised by ISSUE, by the whole commands and by `step` for a reserved word (R54, D6, U4). Safe: the spec says a
  model must not let a run continue past it. -/
  | reservedEncoding (why : Reserved)
  /-- Raised by ISSUE and ATTACH for a pin already attached (R80, D9, U2). Safe: the spec refuses it. -/
  | attachOfAttachedPin
  /-- Raised by ISSUE and SET_THROTTLE for a pin not attached (R80, D9, U3). Safe: the spec refuses it. -/
  | setThrottleBeforeAttach
  /-- Raised by every step whose "Enabled when" does not hold: the block does not make that step there (R38, U15;
  log 6). Safe: it stops. -/
  | notEnabled (mnemonic : String)
  deriving DecidableEq, Repr

/-- The state after reset (R25, R140): the Idle state. Where R25 says "unspecified" the value is a constant of
Config without a body (U9; logs 7 to 12); no move is scheduled and no command is presented. -/
def State.reset : State where
  bitPlane := Vector.replicate 16 Config.bpFill
  attachedPins := 0
  timerActive := false
  chan := Vector.replicate 8 none
  port := Config.portReset
  seq := .idle
  hst := .ready
  cmdPin := Config.resetCmdPin
  cmdThr := Config.resetCmdThr
  irqEn := Config.resetIrqEn
  tickPending := false
  tcnt := 0
  tcmp := Config.resetTcmp
  rsp := Config.resetRsp
  rspValid := false
  cmd := none
  hold := 0
  draining := false
  sched := []

end Sys2Proof.Machine
end

