-- ==== Sys2Proof/Machine/Operands.lean ====
section
/-! DEFINITION. Operand forms: the pin mask, the frame bit of a position, the counters' successors, the operands a
meaning takes from the two sequencers (R6, R52, R55, R56, R115), and the packet encoder's arithmetic (R70). -/

namespace Sys2Proof.Machine

/-- `mask(p)`: bit `p` one and all other bits zero (R6, R52). -/
def mask (p : Pin) : Mask := 1#8 <<< (p : Nat)

/-- The frame bit of position `i`: bit `15 - i` (R6, R31). -/
def frameBit (f : Frame) (i : Pos) : Bool := f.getLsbD (15 - i)

/-- The position after `i`; none after 15, since the counters do not wrap (R15, R16, R73). -/
def nextPos (i : Pos) : Option Pos := if h : (i : Nat) < 15 then some ⟨i + 1, by omega⟩ else none

/-- `hst` as the seven bits of format HST7 (R16, R55). -/
def Hst.toBits : Hst → BitVec 7
  | .ready => 0b0000000
  | .setup => 0b0010000
  | .init => 0b0100000
  | .reg => 0b0110000
  | .latch => 0b1000000
  | .upd i => 0b101#3 ++ (BitVec.ofFin i : BitVec 4)
  | .enc => 0b1100000

/-- The value of `hst` a word of format HST7 is; none for the unreachable ones (R16, R55, U15). -/
def Hst.ofBits (w : BitVec 7) : Option Hst :=
  if w = 0x00 then some .ready
  else if w = 0x10 then some .setup
  else if w = 0x20 then some .init
  else if w = 0x30 then some .reg
  else if w = 0x40 then some .latch
  else if w &&& 0x70 = 0x50 then some (.upd (w.extractLsb' 0 4).toFin)
  else if w = 0x60 then some .enc
  else none

/-- `seq` as the six bits of format SEQ6 (R15, R56). -/
def Seq.toBits : Seq → BitVec 6
  | .idle => 0b000000
  | .high i => 0b01#2 ++ (BitVec.ofFin i : BitVec 4)
  | .data i => 0b10#2 ++ (BitVec.ofFin i : BitVec 4)
  | .low i => 0b11#2 ++ (BitVec.ofFin i : BitVec 4)

/-- The value of `seq` a word of format SEQ6 is; none for the unreachable ones (R15, R56, U15). -/
def Seq.ofBits (w : BitVec 6) : Option Seq :=
  if w = 0x00 then some .idle
  else if w &&& 0x30 = 0x10 then some (.high (w.extractLsb' 0 4).toFin)
  else if w &&& 0x30 = 0x20 then some (.data (w.extractLsb' 0 4).toFin)
  else if w &&& 0x30 = 0x30 then some (.low (w.extractLsb' 0 4).toFin)
  else none

/-- The loop of R70: `c <- c ^ x ; x <- x >> 4`, `n` times. -/
def checksumLoop : Nat → Frame → Frame → Frame
  | 0, c, _ => c
  | n + 1, c, x => checksumLoop n (c ^^^ x) (x >>> 4)

/-- `ENCODE(t)`, the packet encoder, as R70 writes it, all values sixteen bits wide. -/
def encodeFrame (t : Throttle) : Frame :=
  let d : Frame := t.zeroExtend 16 <<< 1
  let csum := checksumLoop 3 0 d &&& 0x000F
  (d <<< 4) ||| csum

/-- The checksum in closed form (R72): the exclusive or of the three nibbles of `d = {t, 0b0}`. -/
def checksum (t : Throttle) : BitVec 4 :=
  let d : BitVec 12 := t ++ 0b0#1
  d.extractLsb' 0 4 ^^^ d.extractLsb' 4 4 ^^^ d.extractLsb' 8 4

end Sys2Proof.Machine
end

