-- ==== Sys2Proof/Machine/Flags.lean ====
section
/-! DEFINITION. The flags and the conditions the steps are enabled by. The block has no condition codes (R73); its
flags are `timer_active`, `irq_en`, `tick_pending` and `rsp_valid` (R12, R17, R18, R20). -/

namespace Sys2Proof.Machine

/-- `cmd_ready = (hst.stage = READY) and (seq.phase = IDLE)` (R50). -/
def State.cmdReady (s : State) : Bool := decide (s.hst = .ready) && decide (s.seq = .idle)

/-- A host micro-step is enabled while `hst` names it and no transmission is in progress (R38 item 1). -/
def State.hostAt (s : State) (h : Hst) : Bool := decide (s.hst = h) && decide (s.seq = .idle)

/-- A transmitter micro-operation is enabled while `seq` names it (R103 to R105). -/
def State.txAt (s : State) (q : Seq) : Bool := decide (s.seq = q)

/-- The condition of TX_START: `seq = (IDLE, 0)`, `tick_pending = 1`, `irq_en = 1` (R102, R121). -/
def State.tickTaken (s : State) : Bool := decide (s.seq = .idle) && s.tickPending && s.irqEn

/-- The condition of TIMER_MATCH: `timer_active = 1` (R100). -/
def State.timerRuns (s : State) : Bool := s.timerActive

/-- The counter's match in the cycle-timed view: `timer_active = 1` and `tcnt = tcmp` (R19, R100). -/
def State.matchDue (s : State) : Bool := s.timerActive && decide (s.tcnt = s.tcmp)

/-- The condition of ENV_PORT: `seq.phase = IDLE` (R109). -/
def State.envMayMove (s : State) : Bool := decide (s.seq = .idle)

/-- Pin `p` is attached: bit `p` of `attached_pins` (R9, R11). -/
def State.attached (s : State) (p : Pin) : Bool := s.attachedPins.getLsbD p

end Sys2Proof.Machine
end

