-- ==== Sys2Proof/Machine/Ops.lean ====
section
/-! DEFINITION. The named operations over the block's state. Each is one update or one read; the meanings are built
from them. `MemRead` and `MemWrite` are R7's names for the store. Taking the one interrupt and returning from it are
each one operation (R123, R124). -/

namespace Sys2Proof.Machine

/-- `MemRead(i, 1)`: one whole store entry, the 16-to-1 selection of the bit-plane multiplexer (R7, R104). -/
def State.memRead (s : State) (i : Pos) : Mask := s.bitPlane[i]

/-- `MemWrite(i, 1, v)`: one whole store entry (R7, R34). -/
def State.memWrite (s : State) (i : Pos) (v : Mask) : State := { s with bitPlane := s.bitPlane.set i v }

/-- Every store entry to `BP_FILL` (R82). -/
def State.fillStore (s : State) : State := { s with bitPlane := Vector.replicate 16 Config.bpFill }

/-- Bit `p` of every store entry to 0 (R83). -/
def State.clearColumn (s : State) (p : Pin) : State :=
  { s with bitPlane := ⟨⟨s.bitPlane.toList.map fun v => v &&& ~~~ mask p⟩, by simp⟩ }

/-- `throttle[p] <- t` and `packet[p] <- f` (R83, R86); it creates the slot if it was absent (R13). -/
def State.setChannel (s : State) (p : Pin) (t : Throttle) (f : Frame) : State :=
  { s with chan := s.chan.set p (some { throttle := t, packet := f }) }

/-- `packet[p]` (R13); any value while the slot does not exist (U9; log 7). -/
def State.packet (s : State) (p : Pin) : Frame :=
  match s.chan[p] with
  | some c => c.packet
  | none => Config.unwrittenPacket p

/-- `throttle[p]`, where the slot exists (R13); no step of the block reads it. -/
def State.throttle? (s : State) (p : Pin) : Option Throttle := s.chan[p].map Channel.throttle

/-- `attached_pins <- attached_pins | mask(p)` (R84). -/
def State.register (s : State) (p : Pin) : State := { s with attachedPins := s.attachedPins ||| mask p }

/-- `attached_pins <- 0` (R82). -/
def State.detachAll (s : State) : State := { s with attachedPins := 0 }

/-- `PORT <- v` (R14). -/
def State.writePort (s : State) (v : Mask) : State := { s with port := v }

/-- `seq <- q` (R15). -/
def State.setSeq (s : State) (q : Seq) : State := { s with seq := q }

/-- `hst <- h` (R16). -/
def State.setHst (s : State) (h : Hst) : State := { s with hst := h }

/-- ISSUE's latches: `cmd_pin <- p` and `rsp_valid <- 0` (R80). -/
def State.latchPin (s : State) (p : Pin) : State := { s with cmdPin := p, rspValid := false }

/-- ISSUE's `cmd_thr <- t` (R80). -/
def State.latchThrottle (s : State) (t : Throttle) : State := { s with cmdThr := t }

/-- The word on the command port: the host presents one, or it is consumed (R50; log 19). -/
def State.setCmd (s : State) (c : Option CmdWord) : State := { s with cmd := c }

/-- `RSP <- f ; rsp_valid <- 1` (R87, R88). -/
def State.respond (s : State) (f : Frame) : State := { s with rsp := f, rspValid := true }

/-- What the host's `n`-th read of `RSP` gives (R20): the response while `rsp_valid = 1`, else any value (R152, U10;
log 13). -/
def State.readRsp (s : State) (n : Nat) : Frame := if s.rspValid then s.rsp else Config.unspecifiedRsp n

/-- The timer programmed and started, Idle to Armed, and the interrupt enabled (R82): the net effect of AT_SETUP's
critical section on the timer and the flags. -/
def State.armTimer (s : State) : State :=
  { s with tcnt := 0, tcmp := BitVec.ofNat 16 (Config.timing.tickPeriod - 1), tickPending := false,
           timerActive := true, irqEn := true }

/-- TIMER_MATCH: `tick_pending <- 1 ; tcnt <- 0` (R100). -/
def State.raiseTick (s : State) : State := { s with tickPending := true, tcnt := 0 }

/-- `tcnt <- tcnt + 1` (R100). -/
def State.countCycle (s : State) : State := { s with tcnt := s.tcnt + 1 }

/-- Taking the interrupt (R102, R123): nothing is saved; `tick_pending <- 0`, `irq_en <- 0`, `seq <- (HIGH, 0)`. -/
def State.takeInterrupt (s : State) : State := { s with tickPending := false, irqEn := false, seq := .high 0 }

/-- Return from the interrupt (R105, R124): `seq <- (IDLE, 0)`, `irq_en <- 1`. -/
def State.returnFromInterrupt (s : State) : State := { s with seq := .idle, irqEn := true }

/-- The model's hold counter of the timed view (R108; log 16). -/
def State.setHold (s : State) (n : Nat) : State := { s with hold := n }

/-- The model's mark of the last hold of a timed transmission (R108, D26; log 16). -/
def State.setDraining (s : State) (b : Bool) : State := { s with draining := b }

/-- The model's list of moves still to be made (R38; log 1). -/
def State.setSched (s : State) (l : List Move) : State := { s with sched := l }

/-- A step enabled by `c`: its one atomic effect, or no step (R7, R38; log 6). -/
def whenEnabled (c : Bool) (name : String) (s' : State) : Host.Outcome State Fault Refusal :=
  if c then .next s' else .refused (.notEnabled name)

/-- The next step of a sequence, from the state the step before it left (R37, R61). -/
def andThen (o : Host.Outcome State Fault Refusal) (f : State → Host.Outcome State Fault Refusal) :
    Host.Outcome State Fault Refusal :=
  match o with
  | .next s => f s
  | .fault r => .fault r
  | .refused r => .refused r

/-- One step after the other for each element of a list, in order (R37). -/
def forEach {α : Type} (f : α → State → Host.Outcome State Fault Refusal) :
    List α → State → Host.Outcome State Fault Refusal
  | [], s => .next s
  | a :: l, s => andThen (f a s) (forEach f l)

/-- The positions 0 to 15, in order (R16, R61). -/
def positions : List Pos := List.finRange 16

end Sys2Proof.Machine
end

