-- ==== Sys2Proof/Machine/Transmitter.lean ====
section
/-! DEFINITION. The transmitter's micro-operations, format SEQ6 (R102 to R105 of spec/42_transmitter.md), each split
into its effect and the condition it is enabled by. -/

namespace Sys2Proof.Machine

/-- TX_START (R102): entry into the handler. -/
def execTxStart (s : State) : Host.Outcome State Fault Refusal :=
  whenEnabled s.tickTaken "TX_START" s.takeInterrupt

/-- The effect of TX_HIGH(`i`) (R103): every attached pin high. -/
def txHighEffect (i : Pos) (s : State) : State := (s.writePort (s.port ||| s.attachedPins)).setSeq (.data i)

/-- TX_HIGH(`i`) (R103). -/
def execTxHigh (i : Pos) (s : State) : Host.Outcome State Fault Refusal :=
  whenEnabled (s.txAt (.high i)) "TX_HIGH" (txHighEffect i s)

/-- The effect of TX_DATA(`i`) (R104): the port ands with the store entry the slot counter selects. -/
def txDataEffect (i : Pos) (s : State) : State := (s.writePort (s.port &&& s.memRead i)).setSeq (.low i)

/-- TX_DATA(`i`) (R104). -/
def execTxData (i : Pos) (s : State) : Host.Outcome State Fault Refusal :=
  whenEnabled (s.txAt (.data i)) "TX_DATA" (txDataEffect i s)

/-- The port write of TX_LOW (R105): every attached pin low. -/
def txLowPort (s : State) : State := s.writePort (s.port &&& ~~~ s.attachedPins)

/-- Where `seq` goes after slot `i` (R105): the next slot, or the return from the interrupt after slot 15. -/
def txLowAdvance (i : Pos) (s : State) : State :=
  match nextPos i with
  | some j => s.setSeq (.high j)
  | none => s.returnFromInterrupt

/-- TX_LOW(`i`) (R105). -/
def execTxLow (i : Pos) (s : State) : Host.Outcome State Fault Refusal :=
  whenEnabled (s.txAt (.low i)) "TX_LOW" (txLowAdvance i (txLowPort s))

end Sys2Proof.Machine
end

