-- ==== Sys2Proof/Machine/Clock.lean ====
section
/-! DEFINITION. The cycle-timed view (R100, R108): one clock cycle, with the timer's count and the transmitter events
that fall due in it. The effects are those of the untimed steps, but that the end of a transmission comes `N_L`
cycles after the port write of TX_LOW(15) (R108, D26). -/

namespace Sys2Proof.Machine

/-- The counter in one cycle (R100): a match clears it and raises the tick, else it counts; it stands still while
`timer_active = 0`. -/
def timerCycle (s : State) : State :=
  if s.matchDue then s.raiseTick else if s.timerActive then s.countCycle else s

/-- The last hold of a transmission has run out: the end of TX_LOW(15) (R108). -/
def endCycle (s : State) : State :=
  if s.draining && s.hold == 0 then (s.returnFromInterrupt).setDraining false else s

/-- A pending tick is accepted in this cycle, if the cycle takes it: TX_START; the first TX_HIGH comes `L_ISR` cycles
later (R102, R108). -/
def startCycle (take : Bool) (s : State) : State :=
  if take && s.tickTaken then (s.takeInterrupt).setHold Config.timing.lIsr else s

/-- The port write that falls due in this cycle, and the hold that follows it (R108). -/
def portCycle (s : State) : State :=
  if s.hold == 0 then
    match s.seq with
    | .idle => s
    | .high i => (txHighEffect i s).setHold Config.timing.nH
    | .data i => (txDataEffect i s).setHold Config.timing.nD
    | .low i =>
      match nextPos i with
      | some j => ((txLowPort s).setSeq (.high j)).setHold Config.timing.nL
      | none => ((txLowPort s).setDraining true).setHold Config.timing.nL
  else s

/-- One clock cycle: the timer first, then one cycle of the running hold, then what falls due (R100, R108; log 15).
The host does not move in it (log 26). -/
def State.cycle (take : Bool) (s : State) : State :=
  let t := timerCycle s
  portCycle (startCycle take (endCycle (t.setHold (t.hold - 1))))

end Sys2Proof.Machine
end

