-- ==== Sys2Proof/Machine/HostSteps.lean ====
section
/-! DEFINITION. The host's micro-steps, format HST7 (R80, R82 to R84, R86 to R88 of spec/41_channel_ops.md). Each is
one atomic step, enabled while `hst` names it and `seq.phase = IDLE`. -/

namespace Sys2Proof.Machine

/-- ISSUE of ATTACH `p` (R80, first case): refused for an attached pin. -/
def issueAttach (p : Pin) (s : State) : Host.Outcome State Fault Refusal :=
  if s.attached p then .refused .attachOfAttachedPin
  else .next ((s.latchPin p).setHst (if s.timerActive then .init else .setup))

/-- ISSUE of SET_THROTTLE `p, t` (R80, second case): refused for a pin not attached. -/
def issueSetThrottle (p : Pin) (t : Throttle) (s : State) : Host.Outcome State Fault Refusal :=
  if s.attached p then .next (((s.latchPin p).latchThrottle t).setHst .latch)
  else .refused .setThrottleBeforeAttach

/-- ISSUE of ENCODE `t` (R80, third case). -/
def issueEncode (t : Throttle) (s : State) : Host.Outcome State Fault Refusal :=
  .next (((s.latchPin 0).latchThrottle t).setHst .enc)

/-- ISSUE of the command word `w` (R80): enabled when `cmd_ready`; a reserved word is refused (R54). -/
def issueWord (w : CmdWord) (s : State) : Host.Outcome State Fault Refusal :=
  if s.cmdReady then
    match decodeCmd w with
    | .ok (.attach p) => issueAttach p s
    | .ok (.setThrottle p t) => issueSetThrottle p t s
    | .ok (.encode t) => issueEncode t s
    | .error e => .refused (.reservedEncoding e)
  else .refused (.notEnabled "ISSUE")

/-- ISSUE (R80): the word the host presents on the command port is decoded and consumed; while none is presented
the block waits (R140) and the step is not enabled. -/
def execIssue (s : State) : Host.Outcome State Fault Refusal :=
  match s.cmd with
  | none => .refused (.notEnabled "ISSUE")
  | some w => issueWord w (s.setCmd none)

/-- AT_SETUP (R82): the one-time setup, Idle to Armed. -/
def execAtSetup (s : State) : Host.Outcome State Fault Refusal :=
  whenEnabled (s.hostAt .setup) "AT_SETUP" ((s.fillStore.detachAll.armTimer).setHst .init)

/-- AT_INIT (R83): the channel's throttle and packet to 0, its column to 0. -/
def execAtInit (s : State) : Host.Outcome State Fault Refusal :=
  whenEnabled (s.hostAt .init) "AT_INIT" (((s.setChannel s.cmdPin 0 0).clearColumn s.cmdPin).setHst .reg)

/-- AT_REG (R84): the pin enters `attached_pins`. -/
def execAtReg (s : State) : Host.Outcome State Fault Refusal :=
  whenEnabled (s.hostAt .reg) "AT_REG" ((s.register s.cmdPin).setHst .ready)

/-- ST_LATCH (R86): throttle and packet into the channel file. -/
def execStLatch (s : State) : Host.Outcome State Fault Refusal :=
  whenEnabled (s.hostAt .latch) "ST_LATCH"
    ((s.setChannel s.cmdPin s.cmdThr (encodeFrame s.cmdThr)).setHst (.upd 0))

/-- The entry ST_UPD(`i`) writes (R87): bit `cmd_pin` of entry `i` set or cleared by the frame bit of position `i`. -/
def updatedEntry (s : State) (i : Pos) : Mask :=
  if frameBit (s.packet s.cmdPin) i then s.memRead i ||| mask s.cmdPin
  else s.memRead i &&& ~~~ mask s.cmdPin

/-- What follows the write of ST_UPD(`i`) (R87): the next position, or after position 15 the response and READY. -/
def advanceUpd (i : Pos) (s : State) : State :=
  match nextPos i with
  | some j => s.setHst (.upd j)
  | none => (s.respond (s.packet s.cmdPin)).setHst .ready

/-- ST_UPD(`i`) (R87): one atomic read-modify-write of one store entry. -/
def execStUpd (i : Pos) (s : State) : Host.Outcome State Fault Refusal :=
  whenEnabled (s.hostAt (.upd i)) "ST_UPD" (advanceUpd i (s.memWrite i (updatedEntry s i)))

/-- ENC_EXEC (R88): `RSP <- ENCODE(cmd_thr)`. -/
def execEncExec (s : State) : Host.Outcome State Fault Refusal :=
  whenEnabled (s.hostAt .enc) "ENC_EXEC" ((s.respond (encodeFrame s.cmdThr)).setHst .ready)

end Sys2Proof.Machine
end

