-- ==== Sys2Proof/Machine/Commands.lean ====
section
/-! DEFINITION. The three host commands, format CMD16, each whole: its expansion into micro-steps with no
transmission inside it (R61, R81, R85, R88; log 5). The same command with transmissions between its micro-steps is
run by the moves `issue` and `host` (R38). -/

namespace Sys2Proof.Machine

/-- AT_SETUP where the command is in stage S_SETUP, nothing otherwise: "[AT_SETUP if timer_active = 0;]" (R61). -/
def setupIfNeeded (s : State) : Host.Outcome State Fault Refusal :=
  if s.hst = .setup then execAtSetup s else .next s

/-- ATTACH `p` (R81): ISSUE; AT_SETUP if `timer_active = 0`; AT_INIT; AT_REG. -/
def execAttach (p : Pin) (s : State) : Host.Outcome State Fault Refusal :=
  andThen (andThen (andThen (issueWord (cmdWord 0b01 p 0) s) setupIfNeeded) execAtInit) execAtReg

/-- SET_THROTTLE `p, t` (R85): ISSUE; ST_LATCH; ST_UPD(0) to ST_UPD(15). -/
def execSetThrottle (p : Pin) (t : Throttle) (s : State) : Host.Outcome State Fault Refusal :=
  andThen (andThen (issueWord (cmdWord 0b10 p t) s) execStLatch) (forEach execStUpd positions)

/-- ENCODE `t` (R88): ISSUE; ENC_EXEC. -/
def execEncode (t : Throttle) (s : State) : Host.Outcome State Fault Refusal :=
  andThen (issueWord (cmdWord 0b11 0 t) s) execEncExec

end Sys2Proof.Machine
end

