-- ==== Sys2Proof/Machine/Events.lean ====
section
/-! DEFINITION. The two steps that come from outside the sequencers (R57): TIMER_MATCH (R100) and ENV_PORT (R109). -/

namespace Sys2Proof.Machine

/-- TIMER_MATCH (R100): enabled while the timer runs, in every sequencer state. -/
def execTimerMatch (s : State) : Host.Outcome State Fault Refusal :=
  whenEnabled s.timerRuns "TIMER_MATCH" s.raiseTick

/-- The value ENV_PORT(`v`) gives PORT (R109): attached bits kept, unattached bits from `v`. -/
def envPortValue (v : Mask) (s : State) : Mask := (s.port &&& s.attachedPins) ||| (v &&& ~~~ s.attachedPins)

/-- ENV_PORT(`v`) (R109): enabled while `seq.phase = IDLE`. -/
def execEnvPort (v : Mask) (s : State) : Host.Outcome State Fault Refusal :=
  whenEnabled s.envMayMove "ENV_PORT" (s.writePort (envPortValue v s))

end Sys2Proof.Machine
end

