-- ==== Sys2Proof/Machine/Dispatch.lean ====
section
/-! DEFINITION. One arm for each step of the opcode table, each a direct call of its meaning. -/

namespace Sys2Proof.Machine

/-- The meaning of a step, in the order of spec/opcode_table.json. -/
def exec (i : Instr) (s : State) : Host.Outcome State Fault Refusal :=
  match i with
  | .attach p => Sys2Proof.Machine.execAttach p s
  | .setThrottle p t => Sys2Proof.Machine.execSetThrottle p t s
  | .encode t => Sys2Proof.Machine.execEncode t s
  | .issue => Sys2Proof.Machine.execIssue s
  | .atSetup => Sys2Proof.Machine.execAtSetup s
  | .atInit => Sys2Proof.Machine.execAtInit s
  | .atReg => Sys2Proof.Machine.execAtReg s
  | .stLatch => Sys2Proof.Machine.execStLatch s
  | .stUpd k => Sys2Proof.Machine.execStUpd k s
  | .encExec => Sys2Proof.Machine.execEncExec s
  | .txStart => Sys2Proof.Machine.execTxStart s
  | .txHigh k => Sys2Proof.Machine.execTxHigh k s
  | .txData k => Sys2Proof.Machine.execTxData k s
  | .txLow k => Sys2Proof.Machine.execTxLow k s
  | .timerMatch => Sys2Proof.Machine.execTimerMatch s
  | .envPort v => Sys2Proof.Machine.execEnvPort v s

end Sys2Proof.Machine
end

