-- ==== Sys2Proof/Machine/Fetch.lean ====
section
/-! DEFINITION. How a move comes to a step of the opcode table: what the move changes before it, the word it reads
and the place it reads it from (R50, R55 to R57), and the reverse, a word placed where the next step reads it. -/

namespace Sys2Proof.Machine

/-- The state in which a move is made, the move taken off the list: ISSUE's word stands on the command port (R50);
an untimed move of the transmitter leaves no timed hold running (R101; log 16). -/
def State.accept (s : State) (m : Move) (rest : List Move) : State :=
  match m with
  | .issue w => (s.setSched rest).setCmd (some w)
  | .transmitter => ((s.setSched rest).setHold 0).setDraining false
  | .command _ => s.setSched rest
  | .host => s.setSched rest
  | .timer => s.setSched rest
  | .env _ => s.setSched rest
  | .clock _ => s.setSched rest

/-- The word a move reads, in its format: the command port, `hst`, `seq`, the strobe, the environment's value (R50,
R55 to R57). A clock cycle reads none. ISSUE is read as the word `0000000` and is enabled only when `hst` holds it. -/
def State.fetch (s : State) (m : Move) : Option FetchWord :=
  match m with
  | .command w => some (.cmd16 w)
  | .issue _ => some (.hst7 0b0000000)
  | .host => some (.hst7 s.hst.toBits)
  | .transmitter => some (.seq6 s.seq.toBits)
  | .timer => some (.evt1 1)
  | .env v => some (.env8 v)
  | .clock _ => none

/-- Whether a move lets a pending tick be accepted: only a clock cycle asks (R122). -/
def Move.takesTick : Move → Bool
  | .clock b => b
  | .command _ => false
  | .issue _ => false
  | .host => false
  | .transmitter => false
  | .timer => false
  | .env _ => false

/-- A fetched word run: its step's meaning, or a refusal by name for a reserved word (R54). -/
def State.runWord (w : FetchWord) (s : State) : Host.Outcome State Fault Refusal :=
  match decode w with
  | .ok i => exec i s
  | .error e => .refused (.reservedEncoding e)

/-- A move made in the state that accepted it: the word it reads run, or a clock cycle. -/
def State.perform (m : Move) (s : State) : Host.Outcome State Fault Refusal :=
  match s.fetch m with
  | some w => s.runWord w
  | none => .next (s.cycle m.takesTick)

/-- The command word that stands on the port where ISSUE itself is placed to run next: the one presented, else
ENCODE 0, which every state may issue (log 4). -/
def State.wordToIssue (s : State) : CmdWord := s.cmd.getD 0xC000

/-- A word of format HST7 placed: `hst` holds it and the host moves next. -/
def State.placeHst (s : State) (h : Hst) : State :=
  match h with
  | .ready => (s.setHst .ready).setSched (.issue s.wordToIssue :: s.sched)
  | .setup => (s.setHst .setup).setSched (.host :: s.sched)
  | .init => (s.setHst .init).setSched (.host :: s.sched)
  | .reg => (s.setHst .reg).setSched (.host :: s.sched)
  | .latch => (s.setHst .latch).setSched (.host :: s.sched)
  | .upd i => (s.setHst (.upd i)).setSched (.host :: s.sched)
  | .enc => (s.setHst .enc).setSched (.host :: s.sched)

/-- A word of format SEQ6 placed: `seq` holds it and the transmitter moves next. `000000` selects TX_START only
"when `tick_pending and irq_en`" (R56), so these are set with it. -/
def State.placeSeq (s : State) (q : Seq) : State :=
  match q with
  | .idle => { s with seq := .idle, tickPending := true, irqEn := true, sched := .transmitter :: s.sched }
  | .high i => (s.setSeq (.high i)).setSched (.transmitter :: s.sched)
  | .data i => (s.setSeq (.data i)).setSched (.transmitter :: s.sched)
  | .low i => (s.setSeq (.low i)).setSched (.transmitter :: s.sched)

/-- A word placed where the next step reads it (log 2). A value no sequencer can hold (U15) cannot be placed. The
strobe comes only from a running timer (R100), so `timer_active` is set with it. -/
def State.placeWord (s : State) (w : FetchWord) : State :=
  match w with
  | .cmd16 c => s.setSched (.command c :: s.sched)
  | .hst7 b =>
    match Hst.ofBits b with
    | some h => s.placeHst h
    | none => s
  | .seq6 b =>
    match Seq.ofBits b with
    | some q => s.placeSeq q
    | none => s
  | .evt1 _ => { s with timerActive := true, sched := .timer :: s.sched }
  | .env8 v => s.setSched (.env v :: s.sched)

end Sys2Proof.Machine
end

