-- ==== Sys2Proof/Machine/Step.lean ====
section
/-! DEFINITION. One step: the next move of the list (R38), or, where the list is empty, one clock cycle of the block
left to itself (R100, R108; logs 1, 2 and 15). -/

namespace Sys2Proof.Machine

/-- One step of the block. -/
def step (s : State) : Host.Outcome State Fault Refusal :=
  match s.sched with
  | [] => .next (s.cycle true)
  | m :: rest => (s.accept m rest).perform m

/-- `s` with the instruction of `nbits` bits `w` placed where the next step reads it (log 2). -/
def State.withFetchWord (s : State) (nbits w : Nat) : State :=
  match tableWord nbits w with
  | some fw => s.placeWord fw
  | none => s

end Sys2Proof.Machine
end

