-- ==== Sys2Proof/Machine/Macros.lean ====
section
/-! DEFINITION. The macros and assembler lines of R60 and R61 of spec/30_encoding.md, and the waveform a transmission
puts on the pins (R107; the traces of spec/95_test_vectors.md). -/

namespace Sys2Proof.Machine

/-- The 48 port writes of a transmission, in order (R61, R41). -/
def portWrites : List Instr := positions.flatMap fun i => [.txHigh i, .txData i, .txLow i]

/-- The macro TRANSMIT: TX_START and the 48 port writes, 49 steps (R61). -/
def transmitSteps : List Instr := .txStart :: portWrites

/-- The macro TICK: TIMER_MATCH, then TRANSMIT (R61). -/
def tickSteps : List Instr := .timerMatch :: transmitSteps

/-- The steps of a list one after the other, nothing between them. -/
def execAll (l : List Instr) (s : State) : Host.Outcome State Fault Refusal := forEach exec l s

/-- The values PORT takes after each step of a list, up to the first step that has no next state. -/
def portTrace : List Instr → State → List Mask
  | [], _ => []
  | i :: l, s =>
    match exec i s with
    | .next t => t.port :: portTrace l t
    | .fault _ => []
    | .refused _ => []

/-- The trace of one transmission from TX_START on: 48 values, three a slot (R107). -/
def transmission (s : State) : List Mask := (portTrace transmitSteps s).tail

/-- The level of pin `p` in the data phase of slot `i` of a trace: high for a long pulse (R106, R107). -/
def dataLevel (levels : List Mask) (p : Pin) (i : Pos) : Bool :=
  match levels[3 * (i : Nat) + 1]? with
  | some v => v.getLsbD p
  | none => false

/-- The word on pin `p` read from a trace: the data levels of slots 0 to 15 as bits 15 down to 0 (R107). -/
def wordOnPin (levels : List Mask) (p : Pin) : Frame :=
  positions.foldl (fun f i => (f <<< 1) ||| (if dataLevel levels p i then 1 else 0)) 0

/-- The word a transmission at TX_START would put on attached pin `p`: bit `15 - i` is bit `p` of entry `i` (R107). -/
def State.column (s : State) (p : Pin) : Frame :=
  positions.foldl (fun f i => (f <<< 1) ||| (if (s.memRead i).getLsbD p then 1 else 0)) 0

/-- What a line does (R60, R61): none for a line with an operand out of range, which is an assembler error; else
the named step or the macro's expansion. A schedule line runs exactly the step it names, and is refused where that
step is not enabled. -/
def runLine (l : Line) (s : State) : Option (Host.Outcome State Fault Refusal) :=
  if l.wf then
    some (match l with
      | .attach p => exec (.attach (Fin.ofNat 8 p)) s
      | .setThrottle p t => exec (.setThrottle (Fin.ofNat 8 p) (BitVec.ofNat 11 t)) s
      | .encode t => exec (.encode (BitVec.ofNat 11 t)) s
      | .issue w => exec .issue (s.setCmd (some (BitVec.ofNat 16 w)))
      | .atSetup => exec .atSetup s
      | .atInit => exec .atInit s
      | .atReg => exec .atReg s
      | .stLatch => exec .stLatch s
      | .stUpd i => exec (.stUpd (Fin.ofNat 16 i)) s
      | .encExec => exec .encExec s
      | .txStart => exec .txStart s
      | .txHigh i => exec (.txHigh (Fin.ofNat 16 i)) s
      | .txData i => exec (.txData (Fin.ofNat 16 i)) s
      | .txLow i => exec (.txLow (Fin.ofNat 16 i)) s
      | .timerMatch => exec .timerMatch s
      | .envPort v => exec (.envPort (BitVec.ofNat 8 v)) s
      | .transmit => execAll transmitSteps s
      | .tick => execAll tickSteps s)
  else none

end Sys2Proof.Machine
end

