-- ==== Sys2Proof/Safety.lean ====
section
/-! DEFINITION. What a good state of the block is, in the terms the statements use: the spec's invariants (R22, R23)
and what they need of the two sequencers and the flags. -/

namespace Sys2Proof.Machine

/-- Bit `p` of store entry `i`. -/
def State.storeBit (s : State) (i : Pos) (p : Pin) : Bool := (s.memRead i).getLsbD p

/-- A transmission is in progress: context handler (R125). -/
def State.inHandler (s : State) : Bool :=
  match s.seq with
  | .idle => false
  | .high _ => true
  | .data _ => true
  | .low _ => true

/-- The unattached-pin invariant (R22): a pin that is not attached, and whose own ATTACH is not past AT_INIT, reads
as in `BP_FILL` in every entry. -/
def State.UnattachedReadsOne (s : State) : Prop :=
  ∀ p : Pin, s.attached p = false → ¬(s.hst = .reg ∧ s.cmdPin = p) → ∀ i : Pos, s.storeBit i p = true

/-- The attached-pin invariant (R23): the column of an attached pin spells its packet, but for the positions that a
SET_THROTTLE of that pin has still to write. -/
def State.AttachedReadsPacket (s : State) : Prop :=
  ∀ p : Pin, s.attached p = true → ∀ i : Pos,
    (∀ k : Pos, s.hst = .upd k → s.cmdPin = p → i < k) → s.storeBit i p = frameBit (s.packet p) i

/-- The slot of every attached pin exists (R13), and so does the slot of a pin between AT_INIT and AT_REG, with
throttle and packet 0 and its column 0 (R22, R83). -/
def State.SlotsCreated (s : State) : Prop :=
  (∀ p : Pin, s.attached p = true → (s.chan[p]).isSome = true) ∧
    (s.hst = .reg → s.chan[s.cmdPin] = some { throttle := 0, packet := 0 } ∧
      ∀ i : Pos, s.storeBit i s.cmdPin = false)

/-- The command in flight fits the state (R80, R90, R91): SET_THROTTLE names an attached pin, ATTACH a pin not yet
attached, setup comes before the timer runs and the rest of ATTACH after. -/
def State.CommandFits (s : State) : Prop :=
  ((s.hst = .latch ∨ ∃ k, s.hst = .upd k) → s.attached s.cmdPin = true) ∧
    (s.hst = .setup → s.timerActive = false) ∧
    ((s.hst = .init ∨ s.hst = .reg) → s.timerActive = true ∧ s.attached s.cmdPin = false)

/-- The flags fit the sequencer (R17, R18, R112, R121, R124): nothing is attached or pending before the timer runs;
once it runs `irq_en` is 0 exactly during a transmission, and a transmission needs the timer. -/
def State.FlagsFit (s : State) : Prop :=
  (s.timerActive = false → s.attachedPins = 0 ∧ s.tickPending = false ∧ s.seq = .idle) ∧
    (s.timerActive = true → s.irqEn = !s.inHandler)

/-- The timer's registers while it runs (R19, R73): the compare value is `TICK_PERIOD - 1` and the count has not
passed it, so it is cleared before it could wrap. -/
def State.TimerFits (s : State) : Prop :=
  s.timerActive = true →
    s.tcmp.toNat = Config.timing.tickPeriod - 1 ∧ s.tcnt.toNat ≤ s.tcmp.toNat

/-- The timed view's last hold belongs to slot 15 (R108, D26; the model's field, log 16). -/
def State.DrainFits (s : State) : Prop := s.draining = true → s.seq = .low 15

/-- The invariant of the block: what reset has and every step keeps. -/
structure State.Inv (s : State) : Prop where
  /-- R22. -/
  unattached : s.UnattachedReadsOne
  /-- R23. -/
  attachedPacket : s.AttachedReadsPacket
  /-- R13. -/
  slots : s.SlotsCreated
  /-- R80, R90, R91. -/
  command : s.CommandFits
  /-- R17, R18, R112, R121, R124. -/
  flags : s.FlagsFit
  /-- R19, R73. -/
  timer : s.TimerFits
  /-- log 16. -/
  drain : s.DrainFits

/-- A step of the transmitter or the timer: all that can occur during a transmission (R38 item 1). -/
def isHandlerStep : Instr → Bool
  | .txStart => true
  | .txHigh _ => true
  | .txData _ => true
  | .txLow _ => true
  | .timerMatch => true
  | .attach _ => false
  | .setThrottle _ _ => false
  | .encode _ => false
  | .issue => false
  | .atSetup => false
  | .atInit => false
  | .atReg => false
  | .stLatch => false
  | .stUpd _ => false
  | .encExec => false
  | .envPort _ => false

/-- The pin whose column, slot and attachment a step may change (R90): the operand of a whole command, `cmd_pin` for
a micro-step of one; none for the steps that change no pin's. -/
def actingPin (i : Instr) (s : State) : Option Pin :=
  match i with
  | .attach p => some p
  | .setThrottle p _ => some p
  | .atInit => some s.cmdPin
  | .atReg => some s.cmdPin
  | .stLatch => some s.cmdPin
  | .stUpd _ => some s.cmdPin
  | .encode _ => none
  | .issue => none
  | .atSetup => none
  | .encExec => none
  | .txStart => none
  | .txHigh _ => none
  | .txData _ => none
  | .txLow _ => none
  | .timerMatch => none
  | .envPort _ => none

/-- A run of steps, each answering a next state. -/
inductive Reach : State → State → Prop where
  /-- No step. -/
  | refl (s : State) : Reach s s
  /-- One step more. -/
  | step {s t u : State} (h : Reach s t) (hs : Machine.step t = .next u) : Reach s u

/-- `n` clock cycles of the block left to itself, each taking a pending tick at once (R100, R108). -/
def cycles : Nat → State → State
  | 0, s => s
  | n + 1, s => cycles n (s.cycle true)

/-- The part of a state the untimed view has (R101): no count, no compare value, no hold; a transmission whose last
hold is running has already ended (D26). -/
def State.untimed (s : State) : State :=
  { (if s.draining then s.returnFromInterrupt else s) with
    tcnt := 0, tcmp := 0, hold := 0, draining := false, sched := [] }

end Sys2Proof.Machine
end

