-- ==== Sys2Proof/Certificates/Slice0/Obligations.lean ====
section
/-! DEFINITION. The statements about the block, for the provers. Where a statement gives the next state as
`{ s with … }`, every field it does not name is unchanged: that is the step's frame, every store entry included. -/

open Sys2Proof Sys2Proof.Machine

/-! ### Words and steps (30_encoding.md) -/

/-- R51, R55, R56, R57: every step decodes from its own word, with every operand. -/
def Obligations.DecodeOfEncode : Prop := ∀ i : Instr, decode (encode i) = .ok i

/-- R51, R55, R56, R57: a word stands for at most one step, and that step's word is it. -/
def Obligations.EncodeOfDecode : Prop := ∀ (w : FetchWord) (i : Instr), decode w = .ok i → encode i = w

/-- R54, U15: the decoder has a step for exactly the words that match a row of the opcode table. -/
def Obligations.DecodesExactlyTheTableRows : Prop :=
  ∀ w : FetchWord, (∃ i, decode w = .ok i) ↔ w.wf = true

/-- R53, R54: the reserved command words are those of the three kinds, and ISSUE refuses each. -/
def Obligations.ReservedCommandWordsAreRefused : Prop :=
  ∀ w : CmdWord,
    ((w.extractLsb' 14 2 = 0b00 ∨ (w.extractLsb' 14 2 = 0b01 ∧ w.extractLsb' 0 11 ≠ 0) ∨
        (w.extractLsb' 14 2 = 0b11 ∧ w.extractLsb' 11 3 ≠ 0)) ↔ ∃ e, decodeCmd w = .error e) ∧
    ∀ (s : State) (e : Reserved), s.hst = .ready → s.seq = .idle → s.cmd = some w → decodeCmd w = .error e →
      exec .issue s = .refused (.reservedEncoding e)

/-- Words written out from the tables of R51, R55, R56 and R57 decode to their steps (V30). -/
def Obligations.TableWordsDecode : Prop :=
  decode (.cmd16 0b0101000000000000) = .ok (.attach 2) ∧
  decode (.cmd16 0b1001010000010110) = .ok (.setThrottle 2 1046) ∧
  decode (.cmd16 0b1100011111111111) = .ok (.encode 2047) ∧
  decode (.hst7 0b0100000) = .ok .atInit ∧
  decode (.hst7 0b1011001) = .ok (.stUpd 9) ∧
  decode (.seq6 0b010100) = .ok (.txHigh 4) ∧
  decode (.seq6 0b101011) = .ok (.txData 11) ∧
  decode (.evt1 0b1) = .ok .timerMatch ∧
  decode (.env8 0b01111110) = .ok (.envPort 0x7E)

/-- R60, R74: an operand out of range is an assembler error; in range the line is the step it names. -/
def Obligations.OutOfRangeOperandsDoNotAssemble : Prop :=
  ∀ (s : State) (p t : Nat),
    (runLine (.attach p) s = if p < 8 then some (exec (.attach (Fin.ofNat 8 p)) s) else none) ∧
    (runLine (.setThrottle p t) s =
      if p < 8 ∧ t < 2048 then some (exec (.setThrottle (Fin.ofNat 8 p) (BitVec.ofNat 11 t)) s) else none) ∧
    (runLine (.encode t) s = if t < 2048 then some (exec (.encode (BitVec.ofNat 11 t)) s) else none)

/-! ### One step of the machine (R38) -/

/-- R38, R50, R55 to R57: where the next move reads a word that decodes to a step, `step` is that step's meaning in the
state the move leaves (the move taken off the list; ISSUE's word on the command port; for an untimed move of the
transmitter no timed hold running). -/
def Obligations.StepRunsTheDecodedStep : Prop :=
  ∀ (s : State) (m : Move) (rest : List Move) (w : FetchWord) (i : Instr),
    s.sched = m :: rest → (s.accept m rest).fetch m = some w → decode w = .ok i →
      step s = exec i (s.accept m rest)

/-- R50, R55 to R57: what each agent reads. The host reads the value of `hst`, the transmitter that of `seq`, the timer
its strobe, the environment its value; what a move changes before it is read. -/
def Obligations.EachAgentReadsItsOwnWord : Prop :=
  ∀ (s : State) (rest : List Move),
    (∀ w, (s.accept (.command w) rest) = { s with sched := rest } ∧ s.fetch (.command w) = some (.cmd16 w)) ∧
    (∀ w, (s.accept (.issue w) rest) = { s with sched := rest, cmd := some w } ∧
      s.fetch (.issue w) = some (.hst7 0b0000000)) ∧
    ((s.accept .host rest) = { s with sched := rest } ∧ s.fetch .host = some (.hst7 s.hst.toBits)) ∧
    ((s.accept .transmitter rest) = { s with sched := rest, hold := 0, draining := false } ∧
      s.fetch .transmitter = some (.seq6 s.seq.toBits)) ∧
    ((s.accept .timer rest) = { s with sched := rest } ∧ s.fetch .timer = some (.evt1 1)) ∧
    (∀ v, (s.accept (.env v) rest) = { s with sched := rest } ∧ s.fetch (.env v) = some (.env8 v))

/-- The model's choice (logs 2 and 15): with no move left, or a clock move next, a step is one clock cycle. -/
def Obligations.StepWithoutAWordIsACycle : Prop :=
  ∀ s : State,
    (s.sched = [] → step s = .next (s.cycle true)) ∧
    (∀ (b : Bool) (rest : List Move), s.sched = .clock b :: rest → step s = .next ((s.setSched rest).cycle b))

/-- R55, R56 and the model's choice of where a word is placed (log 2): a placed word is what the next step runs. -/
def Obligations.PlacedWordRunsNext : Prop :=
  ∀ (s : State) (nbits w : Nat) (i : Instr), decodeTableWord nbits w = some i →
    ∃ m, (s.withFetchWord nbits w).sched = m :: s.sched ∧
      step (s.withFetchWord nbits w) = exec i ((s.withFetchWord nbits w).accept m s.sched)

/-- R55, R56: `hst` and `seq` are read back from their bits, and every other value of the bits is unreachable. -/
def Obligations.SequencersAreTheirWords : Prop :=
  (∀ h : Hst, Hst.ofBits h.toBits = some h) ∧ (∀ q : Seq, Seq.ofBits q.toBits = some q) ∧
  (∀ (w : BitVec 7) (h : Hst), Hst.ofBits w = some h → h.toBits = w) ∧
  (∀ (w : BitVec 6) (q : Seq), Seq.ofBits w = some q → q.toBits = w)

/-! ### Reset (R25, R140) -/

/-- R25: the table of reset values; the entries it calls unspecified are not constrained. -/
def Obligations.ResetValues : Prop :=
  (∀ i : Pos, State.reset.memRead i = 0xFF) ∧ State.reset.attachedPins = 0 ∧
  State.reset.timerActive = false ∧ (∀ p : Pin, State.reset.chan[p] = none) ∧
  State.reset.port = Config.portReset ∧ State.reset.seq = .idle ∧ State.reset.hst = .ready ∧
  State.reset.tickPending = false ∧ State.reset.tcnt = 0 ∧ State.reset.rspValid = false

/-! ### The packet encoder (40_packet_encoder.md) -/

/-- R71: the frame layout, and the frame bit each store position carries. -/
def Obligations.FrameLayout : Prop :=
  ∀ t : Throttle,
    encodeFrame t = (t ++ 0b0#1) ++ checksum t ∧
    (∀ i : Pos, frameBit (encodeFrame t) i =
      if (i : Nat) ≤ 10 then t.getLsbD (10 - i) else if (i : Nat) = 11 then false else (checksum t).getLsbD (15 - i))

/-- R72: the checksum in closed form, as nibbles and bit by bit, is the low four bits of the frame the loop of R70
gives. -/
def Obligations.ChecksumClosedForm : Prop :=
  ∀ t : Throttle,
    (encodeFrame t).extractLsb' 0 4 =
      ((t ++ 0b0#1).extractLsb' 0 4 ^^^ (t ++ 0b0#1).extractLsb' 4 4 ^^^ (t ++ 0b0#1).extractLsb' 8 4) ∧
    (∀ k : Fin 4, (encodeFrame t).getLsbD k =
      ((t ++ 0b0#1).getLsbD k ^^ (t ++ 0b0#1).getLsbD (k + 4) ^^ (t ++ 0b0#1).getLsbD (k + 8))) ∧
    (encodeFrame t).getLsbD 0 = (t.getLsbD 3 ^^ t.getLsbD 7) ∧
    (encodeFrame t).getLsbD 1 = (t.getLsbD 0 ^^ t.getLsbD 4 ^^ t.getLsbD 8) ∧
    (encodeFrame t).getLsbD 2 = (t.getLsbD 1 ^^ t.getLsbD 5 ^^ t.getLsbD 9) ∧
    (encodeFrame t).getLsbD 3 = (t.getLsbD 2 ^^ t.getLsbD 6 ^^ t.getLsbD 10)

/-- R75 (b) to (f): checksum, telemetry bit 0, the throttle in bits 15 to 5 (so no two throttles share a frame), the
exclusive or of the four nibbles 0, and the frames that are all zeros or all ones. -/
def Obligations.FrameProperties : Prop :=
  ∀ t : Throttle,
    (encodeFrame t).extractLsb' 0 4 = checksum t ∧
    (encodeFrame t).getLsbD 4 = false ∧
    (encodeFrame t).extractLsb' 5 11 = t ∧
    (∀ u : Throttle, encodeFrame u = encodeFrame t → u = t) ∧
    (encodeFrame t).extractLsb' 12 4 ^^^ (encodeFrame t).extractLsb' 8 4 ^^^ (encodeFrame t).extractLsb' 4 4 ^^^
      (encodeFrame t).extractLsb' 0 4 = 0 ∧
    (encodeFrame t = 0 ↔ t = 0) ∧ encodeFrame t ≠ 0xFFFF

/-- R76 and the example of R70: the worked frames. -/
def Obligations.WorkedFrames : Prop :=
  encodeFrame 0 = 0x0000 ∧ encodeFrame 2047 = 0xFFEE ∧ encodeFrame 1046 = 0x82C6

/-! ### The host's micro-steps (41_channel_ops.md) -/

/-- R80: ISSUE, all its cases, from a state in which it is enabled and a word is presented; and where it is not. That
the port holds no word after it is the model's choice (log 19). -/
def Obligations.IssueDispatches : Prop :=
  decode (.hst7 0b0000000) = .ok .issue ∧
  ∀ s : State,
    (∀ w : CmdWord, s.hst = .ready → s.seq = .idle → s.cmd = some w →
      (∀ p : Pin, w = cmdWord 0b01 p 0 →
        exec .issue s =
          if s.attached p = true then .refused .attachOfAttachedPin
          else .next { s with
            cmd := none, cmdPin := p, rspValid := false,
            hst := if s.timerActive = true then .init else .setup }) ∧
      (∀ (p : Pin) (t : Throttle), w = cmdWord 0b10 p t →
        exec .issue s =
          if s.attached p = true then
            .next { s with cmd := none, cmdPin := p, cmdThr := t, rspValid := false, hst := .latch }
          else .refused .setThrottleBeforeAttach) ∧
      (∀ t : Throttle, w = cmdWord 0b11 0 t →
        exec .issue s = .next { s with cmd := none, cmdPin := 0, cmdThr := t, rspValid := false, hst := .enc }) ∧
      ((∀ p t, w ≠ cmdWord 0b10 p t) → (∀ p, w ≠ cmdWord 0b01 p 0) → (∀ t, w ≠ cmdWord 0b11 0 t) →
        ∃ e, exec .issue s = .refused (.reservedEncoding e))) ∧
    (¬(s.hst = .ready ∧ s.seq = .idle) ∨ s.cmd = none → ∀ t, exec .issue s ≠ .next t)

/-- R82: AT_SETUP arms the timer, fills the store, clears `attached_pins` and leaves interrupts enabled. -/
def Obligations.AtSetupArms : Prop :=
  decode (.hst7 0b0010000) = .ok .atSetup ∧
  ∀ s : State,
    (s.hst = .setup → s.seq = .idle →
      exec .atSetup s = .next { s with
        bitPlane := Vector.replicate 16 Config.bpFill, attachedPins := 0, timerActive := true, irqEn := true,
        tickPending := false, tcnt := 0, tcmp := BitVec.ofNat 16 (Config.timing.tickPeriod - 1), hst := .init }) ∧
    (¬(s.hst = .setup ∧ s.seq = .idle) → ∀ t, exec .atSetup s ≠ .next t)

/-- R83: AT_INIT creates the slot with throttle and packet 0 and clears the pin's column, and no other bit. -/
def Obligations.AtInitClearsTheColumn : Prop :=
  decode (.hst7 0b0100000) = .ok .atInit ∧
  ∀ s : State,
    (s.hst = .init → s.seq = .idle →
      ∃ t, exec .atInit s = .next t ∧
        t = { s with
          bitPlane := t.bitPlane, hst := .reg,
          chan := s.chan.set s.cmdPin (some { throttle := 0, packet := 0 }) } ∧
        ∀ (i : Pos) (q : Pin), t.storeBit i q = (s.storeBit i q && decide (q ≠ s.cmdPin))) ∧
    (¬(s.hst = .init ∧ s.seq = .idle) → ∀ t, exec .atInit s ≠ .next t)

/-- R84: AT_REG sets the pin's bit of `attached_pins`. -/
def Obligations.AtRegRegisters : Prop :=
  decode (.hst7 0b0110000) = .ok .atReg ∧
  ∀ s : State,
    (s.hst = .reg → s.seq = .idle →
      exec .atReg s = .next { s with attachedPins := s.attachedPins ||| mask s.cmdPin, hst := .ready }) ∧
    (¬(s.hst = .reg ∧ s.seq = .idle) → ∀ t, exec .atReg s ≠ .next t)

/-- R86: ST_LATCH stores the throttle and its frame and writes no store entry. -/
def Obligations.StLatchStoresTheFrame : Prop :=
  decode (.hst7 0b1000000) = .ok .stLatch ∧
  ∀ s : State,
    (s.hst = .latch → s.seq = .idle →
      exec .stLatch s = .next { s with
        chan := s.chan.set s.cmdPin (some { throttle := s.cmdThr, packet := encodeFrame s.cmdThr }), hst := .upd 0 }) ∧
    (¬(s.hst = .latch ∧ s.seq = .idle) → ∀ t, exec .stLatch s ≠ .next t)

/-- R87: ST_UPD(i) writes bit `cmd_pin` of entry `i` from the packet, and no other bit of the store; after position 15
the packet is the response and the command is done. -/
def Obligations.StUpdWritesOneBit : Prop :=
  ∀ (s : State) (i : Pos),
    decode (.hst7 (0b101#3 ++ (BitVec.ofFin i : BitVec 4))) = .ok (.stUpd i) ∧
    (s.hst = .upd i → s.seq = .idle →
      ∃ t, exec (.stUpd i) s = .next t ∧
        t = { s with
          bitPlane := t.bitPlane,
          hst := if h : (i : Nat) < 15 then .upd ⟨i + 1, by omega⟩ else .ready,
          rsp := if (i : Nat) < 15 then s.rsp else s.packet s.cmdPin,
          rspValid := if (i : Nat) < 15 then s.rspValid else true } ∧
        (∀ (j : Pos) (q : Pin), t.storeBit j q =
          if j = i ∧ q = s.cmdPin then frameBit (s.packet s.cmdPin) i else s.storeBit j q) ∧
        (∀ j : Pos, j ≠ i → t.memRead j = s.memRead j)) ∧
    (¬(s.hst = .upd i ∧ s.seq = .idle) → ∀ t, exec (.stUpd i) s ≠ .next t)

/-- R88: ENC_EXEC answers the frame of `cmd_thr`. -/
def Obligations.EncExecAnswers : Prop :=
  decode (.hst7 0b1100000) = .ok .encExec ∧
  ∀ s : State,
    (s.hst = .enc → s.seq = .idle →
      exec .encExec s = .next { s with rsp := encodeFrame s.cmdThr, rspValid := true, hst := .ready }) ∧
    (¬(s.hst = .enc ∧ s.seq = .idle) → ∀ t, exec .encExec s ≠ .next t)

/-! ### The whole commands (R61, R81, R85, R88) -/

/-- R81: the net effect of ATTACH of a pin not attached, once the timer runs. -/
def Obligations.AttachWhenArmed : Prop :=
  ∀ (s : State) (p : Pin), s.hst = .ready → s.seq = .idle → s.attached p = false → s.timerActive = true →
    ∃ t, exec (.attach p) s = .next t ∧
      t = { s with
        bitPlane := t.bitPlane, attachedPins := s.attachedPins ||| mask p, cmdPin := p, rspValid := false,
        chan := s.chan.set p (some { throttle := 0, packet := 0 }) } ∧
      ∀ (i : Pos) (q : Pin), t.storeBit i q = (s.storeBit i q && decide (q ≠ p))

/-- R81, R92: the net effect of the first ATTACH: it fills the store, arms the timer, and the pin's bit is set
although setup clears `attached_pins`. -/
def Obligations.FirstAttachArmsAndRegisters : Prop :=
  ∀ (s : State) (p : Pin), s.hst = .ready → s.seq = .idle → s.attached p = false → s.timerActive = false →
    ∃ t, exec (.attach p) s = .next t ∧
      t = { s with
        bitPlane := t.bitPlane, attachedPins := mask p, cmdPin := p, rspValid := false, timerActive := true,
        irqEn := true, tickPending := false, tcnt := 0,
        tcmp := BitVec.ofNat 16 (Config.timing.tickPeriod - 1),
        chan := s.chan.set p (some { throttle := 0, packet := 0 }) } ∧
      ∀ (i : Pos) (q : Pin), t.storeBit i q = decide (q ≠ p)

/-- R85: the net effect of SET_THROTTLE of an attached pin. -/
def Obligations.SetThrottleNetEffect : Prop :=
  ∀ (s : State) (p : Pin) (v : Throttle), s.hst = .ready → s.seq = .idle → s.attached p = true →
    ∃ t, exec (.setThrottle p v) s = .next t ∧
      t = { s with
        bitPlane := t.bitPlane, cmdPin := p, cmdThr := v, rsp := encodeFrame v, rspValid := true,
        chan := s.chan.set p (some { throttle := v, packet := encodeFrame v }) } ∧
      ∀ (i : Pos) (q : Pin), t.storeBit i q = if q = p then frameBit (encodeFrame v) i else s.storeBit i q

/-- R88: the net effect of ENCODE, legal before any ATTACH. -/
def Obligations.EncodeNetEffect : Prop :=
  ∀ (s : State) (v : Throttle), s.hst = .ready → s.seq = .idle →
    exec (.encode v) s = .next { s with cmdPin := 0, cmdThr := v, rsp := encodeFrame v, rspValid := true }

/-- R80, U2, U3 for the whole commands: the two refusals by value, and where `cmd_ready` is 0 (R50) none runs. -/
def Obligations.CommandsRefused : Prop :=
  ∀ (s : State) (p : Pin) (v : Throttle),
    (s.hst = .ready → s.seq = .idle → s.attached p = true → exec (.attach p) s = .refused .attachOfAttachedPin) ∧
    (s.hst = .ready → s.seq = .idle → s.attached p = false →
      exec (.setThrottle p v) s = .refused .setThrottleBeforeAttach) ∧
    (s.hst ≠ .ready ∨ s.seq ≠ .idle → ∀ t,
      exec (.attach p) s ≠ .next t ∧ exec (.setThrottle p v) s ≠ .next t ∧ exec (.encode v) s ≠ .next t)

/-- The model's choice (log 6): a step whose "Enabled when" does not hold is refused under its own name (a whole
command under ISSUE's), in every state, and is not passed over. -/
def Obligations.NotEnabledIsRefused : Prop :=
  ∀ s : State,
    (s.hst ≠ .ready ∨ s.seq ≠ .idle → exec .issue s = .refused (.notEnabled "ISSUE") ∧
      (∀ p, exec (.attach p) s = .refused (.notEnabled "ISSUE")) ∧
      (∀ p v, exec (.setThrottle p v) s = .refused (.notEnabled "ISSUE")) ∧
      (∀ v, exec (.encode v) s = .refused (.notEnabled "ISSUE"))) ∧
    (s.cmd = none → exec .issue s = .refused (.notEnabled "ISSUE")) ∧
    (s.hst ≠ .setup ∨ s.seq ≠ .idle → exec .atSetup s = .refused (.notEnabled "AT_SETUP")) ∧
    (s.hst ≠ .init ∨ s.seq ≠ .idle → exec .atInit s = .refused (.notEnabled "AT_INIT")) ∧
    (s.hst ≠ .reg ∨ s.seq ≠ .idle → exec .atReg s = .refused (.notEnabled "AT_REG")) ∧
    (s.hst ≠ .latch ∨ s.seq ≠ .idle → exec .stLatch s = .refused (.notEnabled "ST_LATCH")) ∧
    (∀ i, s.hst ≠ .upd i ∨ s.seq ≠ .idle → exec (.stUpd i) s = .refused (.notEnabled "ST_UPD")) ∧
    (s.hst ≠ .enc ∨ s.seq ≠ .idle → exec .encExec s = .refused (.notEnabled "ENC_EXEC")) ∧
    (s.seq ≠ .idle ∨ s.tickPending = false ∨ s.irqEn = false →
      exec .txStart s = .refused (.notEnabled "TX_START")) ∧
    (∀ i, s.seq ≠ .high i → exec (.txHigh i) s = .refused (.notEnabled "TX_HIGH")) ∧
    (∀ i, s.seq ≠ .data i → exec (.txData i) s = .refused (.notEnabled "TX_DATA")) ∧
    (∀ i, s.seq ≠ .low i → exec (.txLow i) s = .refused (.notEnabled "TX_LOW")) ∧
    (s.timerActive = false → exec .timerMatch s = .refused (.notEnabled "TIMER_MATCH")) ∧
    (s.seq ≠ .idle → ∀ v, exec (.envPort v) s = .refused (.notEnabled "ENV_PORT"))

/-- R61, R81, R85, R88: each whole command is its micro-steps made by the machine one after the other: the run of the
moves ISSUE and then the host's, with nothing between them, ends as the one move that runs the command whole. Moves,
and a command as one move, are the model's choice (logs 1 and 5); a word that stood on the command port before is
replaced by ISSUE's, which is consumed, while the one move leaves the port alone, so it starts with the port empty
(log 19). -/
def Obligations.CommandIsItsMicroSteps : Prop :=
  ∀ (s : State) (p : Pin) (v : Throttle), s.hst = .ready → s.seq = .idle →
    (s.attached p = false →
      core.run (if s.timerActive = true then 3 else 4)
          { s with sched := .issue (cmdWord 0b01 p 0) :: List.replicate (if s.timerActive = true then 2 else 3) .host } =
        core.run 1 { s with cmd := none, sched := [.command (cmdWord 0b01 p 0)] }) ∧
    (s.attached p = true →
      core.run 18 { s with sched := .issue (cmdWord 0b10 p v) :: List.replicate 17 .host } =
        core.run 1 { s with cmd := none, sched := [.command (cmdWord 0b10 p v)] }) ∧
    core.run 2 { s with sched := [.issue (cmdWord 0b11 0 v), .host] } =
      core.run 1 { s with cmd := none, sched := [.command (cmdWord 0b11 0 v)] }

/-- R89: after ATTACH and then SET_THROTTLE of the same pin, both complete, its column spells the frame. -/
def Obligations.AttachThenSetThrottleSpellsTheFrame : Prop :=
  ∀ (s : State) (a : Pin) (v : Throttle), s.hst = .ready → s.seq = .idle → s.attached a = false →
    ∃ t u, exec (.attach a) s = .next t ∧ exec (.setThrottle a v) t = .next u ∧
      ∀ i : Pos, u.storeBit i a = frameBit (encodeFrame v) i

/-- R91: setup runs once. Where AT_SETUP runs nothing is attached and the timer is off; after it the timer runs, every
step keeps it running, and ISSUE of ATTACH goes to S_INIT. -/
def Obligations.SetupRunsOnce : Prop :=
  ∀ s t : State, s.Inv → exec .atSetup s = .next t →
    s.timerActive = false ∧ s.attachedPins = 0 ∧ t.timerActive = true ∧
    (∀ u, Reach t u → u.timerActive = true ∧ u.hst ≠ .setup)

/-- R90: pin isolation. Once the timer runs, no step changes the column, the slot or the attachment of a pin other than
the one it acts on. -/
def Obligations.PinIsolation : Prop :=
  ∀ (s t : State) (i : Instr) (a : Pin), s.Inv → s.timerActive = true → exec i s = .next t →
    actingPin i s ≠ some a →
      (∀ k : Pos, t.storeBit k a = s.storeBit k a) ∧ t.chan[a] = s.chan[a] ∧ t.attached a = s.attached a

/-! ### The timer and the transmitter (42_transmitter.md, 60_exceptions.md) -/

/-- R100: TIMER_MATCH, in every sequencer state, merged with a tick already pending; not enabled while the timer is off. -/
def Obligations.TimerMatchRaisesTheTick : Prop :=
  decode (.evt1 1) = .ok .timerMatch ∧
  ∀ s : State,
    (s.timerActive = true → exec .timerMatch s = .next { s with tickPending := true, tcnt := 0 }) ∧
    (s.timerActive = false → ∀ t, exec .timerMatch s ≠ .next t)

/-- R102, R123: taking the interrupt saves nothing and changes nothing of the command in flight; it is not taken during
a transmission, without a pending tick or with interrupts disabled. -/
def Obligations.TxStartTakesTheInterrupt : Prop :=
  decode (.seq6 0b000000) = .ok .txStart ∧
  ∀ s : State,
    (s.seq = .idle ∧ s.tickPending = true ∧ s.irqEn = true →
      exec .txStart s = .next { s with tickPending := false, irqEn := false, seq := .high 0 }) ∧
    (¬(s.seq = .idle ∧ s.tickPending = true ∧ s.irqEn = true) → ∀ t, exec .txStart s ≠ .next t)

/-- R103: TX_HIGH(i). -/
def Obligations.TxHighRaisesAttachedPins : Prop :=
  ∀ (s : State) (i : Pos),
    decode (.seq6 (0b01#2 ++ (BitVec.ofFin i : BitVec 4))) = .ok (.txHigh i) ∧
    (s.seq = .high i → exec (.txHigh i) s = .next { s with port := s.port ||| s.attachedPins, seq := .data i }) ∧
    (s.seq ≠ .high i → ∀ t, exec (.txHigh i) s ≠ .next t)

/-- R104: TX_DATA(i), the bit-plane multiplexer. -/
def Obligations.TxDataSelectsTheEntry : Prop :=
  ∀ (s : State) (i : Pos),
    decode (.seq6 (0b10#2 ++ (BitVec.ofFin i : BitVec 4))) = .ok (.txData i) ∧
    (s.seq = .data i → exec (.txData i) s = .next { s with port := s.port &&& s.bitPlane[i], seq := .low i }) ∧
    (s.seq ≠ .data i → ∀ t, exec (.txData i) s ≠ .next t)

/-- R105, R124: TX_LOW(i), and the return from the interrupt after slot 15. -/
def Obligations.TxLowEndsThePulse : Prop :=
  ∀ (s : State) (i : Pos),
    decode (.seq6 (0b11#2 ++ (BitVec.ofFin i : BitVec 4))) = .ok (.txLow i) ∧
    (s.seq = .low i → exec (.txLow i) s = .next { s with
      port := s.port &&& ~~~ s.attachedPins,
      seq := if h : (i : Nat) < 15 then .high ⟨i + 1, by omega⟩ else .idle,
      irqEn := if (i : Nat) < 15 then s.irqEn else true }) ∧
    (s.seq ≠ .low i → ∀ t, exec (.txLow i) s ≠ .next t)

/-- R109: ENV_PORT(v) gives PORT the environment's value on unattached bits, while no transmission is in progress. -/
def Obligations.EnvPortKeepsAttachedBits : Prop :=
  ∀ (s : State) (v : Mask),
    decode (.env8 v) = .ok (.envPort v) ∧
    (s.seq = .idle → exec (.envPort v) s =
      .next { s with port := (s.port &&& s.attachedPins) ||| (v &&& ~~~ s.attachedPins) }) ∧
    (s.seq ≠ .idle → ∀ t, exec (.envPort v) s ≠ .next t)

/-- R38 item 1, R125: during a transmission only the transmitter's micro-operations and TIMER_MATCH occur, and they
write nothing of the host's: not the store, not the channel file, not `attached_pins`, not the command in flight. -/
def Obligations.TransmissionIsNotDisturbed : Prop :=
  ∀ (s t : State) (i : Instr), s.seq ≠ .idle → exec i s = .next t →
    isHandlerStep i = true ∧ t.bitPlane = s.bitPlane ∧ t.chan = s.chan ∧ t.attachedPins = s.attachedPins ∧
    t.hst = s.hst ∧ t.cmdPin = s.cmdPin ∧ t.cmdThr = s.cmdThr ∧ t.rsp = s.rsp ∧ t.rspValid = s.rspValid

/-- R106: one whole transmission. Every value PORT takes, bit by bit, slot by slot; what PORT holds at the end; and that
nothing else changes but the pending tick, which is taken. -/
def Obligations.TransmissionNetEffect : Prop :=
  ∀ s : State, s.seq = .idle → s.tickPending = true → s.irqEn = true →
    ∃ t, execAll transmitSteps s = .next t ∧
      t = { s with port := t.port, tickPending := false } ∧
      (transmission s).length = 48 ∧
      (∀ (i : Pos) (q : Pin), ∃ h d l,
        (transmission s)[3 * (i : Nat)]? = some h ∧ (transmission s)[3 * (i : Nat) + 1]? = some d ∧
        (transmission s)[3 * (i : Nat) + 2]? = some l ∧
        (s.attached q = true → h.getLsbD q = true ∧ d.getLsbD q = s.storeBit i q ∧ l.getLsbD q = false) ∧
        (s.attached q = false →
          h.getLsbD q = (s.port.getLsbD q && decide (∀ j : Pos, j < i → s.storeBit j q = true)) ∧
          d.getLsbD q = (s.port.getLsbD q && decide (∀ j : Pos, j ≤ i → s.storeBit j q = true)) ∧
          l.getLsbD q = d.getLsbD q)) ∧
      (∀ q : Pin, t.port.getLsbD q =
        (!s.attached q && s.port.getLsbD q && decide (∀ j : Pos, s.storeBit j q = true)))

/-- R111, R22: a transmission leaves every unattached bit of PORT as it was, but for the pin between AT_INIT and AT_REG
of its own ATTACH, which it clears (R151). -/
def Obligations.UnattachedPortBitsKept : Prop :=
  ∀ s t : State, s.Inv → execAll transmitSteps s = .next t →
    ∀ q : Pin, s.attached q = false →
      t.port.getLsbD q = (s.port.getLsbD q && !(decide (s.hst = .reg) && decide (s.cmdPin = q)))

/-- R107: the word on an attached pin is the column of the store at TX_START; while no SET_THROTTLE of that pin is in
stage S_UPD, it is the pin's packet. -/
def Obligations.WordOnPinIsThePacket : Prop :=
  ∀ (s : State) (p : Pin), s.Inv → s.seq = .idle → s.tickPending = true → s.irqEn = true → s.attached p = true →
    (∀ i : Pos, frameBit (wordOnPin (transmission s) p) i = s.storeBit i p) ∧
    (¬(∃ k, s.hst = .upd k ∧ s.cmdPin = p) → wordOnPin (transmission s) p = s.packet p)

/-- R146: the torn frame, exactly. A transmission that starts after ISSUE of SET_THROTTLE `p, v`, or after ST_LATCH and
`k` of the sixteen ST_UPD, puts on pin `p` the top `k` bits of the new frame and the low `16 - k` of the old word, and
on every other attached pin what it would have sent before. -/
def Obligations.TornFrame : Prop :=
  ∀ (s : State) (p : Pin) (v : Throttle), s.hst = .ready → s.seq = .idle → s.tickPending = true → s.irqEn = true →
    s.attached p = true → s.cmd = some (cmdWord 0b10 p v) →
    (∃ u, exec .issue s = .next u ∧ ∀ q : Pin, s.attached q = true →
      wordOnPin (transmission u) q = wordOnPin (transmission s) q) ∧
    (∀ k : Nat, k ≤ 16 →
      ∃ u, execAll (.issue :: .stLatch :: (positions.take k).map .stUpd) s = .next u ∧
        wordOnPin (transmission u) p =
          ((encodeFrame v &&& ~~~ (0xFFFF#16 >>> k)) ||| (wordOnPin (transmission s) p &&& (0xFFFF#16 >>> k))) ∧
        ∀ q : Pin, q ≠ p → s.attached q = true → wordOnPin (transmission u) q = wordOnPin (transmission s) q)

/-- R110: lane `q` of PORT after a port operation of slot `k` depends only on lane `q` of PORT, of `attached_pins` and of
entry `k`; a lane that is not active passes PORT through, but in TX_DATA, whose entry is applied to every lane. -/
def Obligations.LanesAreIndependent : Prop :=
  ∀ (s u s' u' : State) (q : Pin) (k : Pos) (i : Instr), (i = .txHigh k ∨ i = .txData k ∨ i = .txLow k) →
    exec i s = .next s' → exec i u = .next u' →
    (s.port.getLsbD q = u.port.getLsbD q → s.attached q = u.attached q → s.storeBit k q = u.storeBit k q →
      s'.port.getLsbD q = u'.port.getLsbD q) ∧
    (s.attached q = false → i ≠ .txData k → s'.port.getLsbD q = s.port.getLsbD q) ∧
    (i = .txData k → s'.port.getLsbD q = (s.port.getLsbD q && s.storeBit k q))

/-- R13, R115: the transmitter is unaware of the channel file: with any other contents of it, its steps do the same. -/
def Obligations.TransmitterIgnoresTheChannelFile : Prop :=
  ∀ (s t : State) (i : Instr) (c : Vector (Option Channel) 8), isHandlerStep i = true → exec i s = .next t →
    exec i { s with chan := c } = .next { t with chan := c }

/-! ### Who writes what (10_state.md) -/

/-- R10, R11, R14, R30: the writers of the store, of `attached_pins`, of the channel file and of PORT. -/
def Obligations.WritersOfSharedState : Prop :=
  ∀ (s t : State) (i : Instr), exec i s = .next t →
    (t.bitPlane ≠ s.bitPlane → i = .atSetup ∨ i = .atInit ∨ (∃ k, i = .stUpd k) ∨ (∃ p, i = .attach p) ∨
      ∃ p v, i = .setThrottle p v) ∧
    (t.attachedPins ≠ s.attachedPins → i = .atSetup ∨ i = .atReg ∨ ∃ p, i = .attach p) ∧
    (t.chan ≠ s.chan → i = .atInit ∨ i = .stLatch ∨ (∃ p, i = .attach p) ∨ ∃ p v, i = .setThrottle p v) ∧
    (t.port ≠ s.port → (∃ k, i = .txHigh k) ∨ (∃ k, i = .txData k) ∨ (∃ k, i = .txLow k) ∨ ∃ v, i = .envPort v)

/-- R114: the sequencers' transition table. `hst` moves only by the host's steps and `seq` only by the transmitter's,
each from the value that selects the step to the value the table gives. -/
def Obligations.SequencerTransitions : Prop :=
  ∀ (s t : State) (i : Instr), exec i s = .next t →
    match i with
    | .issue => s.hst = .ready ∧ (t.hst = .setup ∨ t.hst = .init ∨ t.hst = .latch ∨ t.hst = .enc) ∧ t.seq = s.seq
    | .atSetup => s.hst = .setup ∧ t.hst = .init ∧ t.seq = s.seq
    | .atInit => s.hst = .init ∧ t.hst = .reg ∧ t.seq = s.seq
    | .atReg => s.hst = .reg ∧ t.hst = .ready ∧ t.seq = s.seq
    | .stLatch => s.hst = .latch ∧ t.hst = .upd 0 ∧ t.seq = s.seq
    | .stUpd k => s.hst = .upd k ∧ t.seq = s.seq ∧
        ((∃ j : Pos, (j : Nat) = k + 1 ∧ t.hst = .upd j) ∨ (k = 15 ∧ t.hst = .ready))
    | .encExec => s.hst = .enc ∧ t.hst = .ready ∧ t.seq = s.seq
    | .txStart => s.seq = .idle ∧ t.seq = .high 0 ∧ t.hst = s.hst
    | .txHigh k => s.seq = .high k ∧ t.seq = .data k ∧ t.hst = s.hst
    | .txData k => s.seq = .data k ∧ t.seq = .low k ∧ t.hst = s.hst
    | .txLow k => s.seq = .low k ∧ t.hst = s.hst ∧
        ((∃ j : Pos, (j : Nat) = k + 1 ∧ t.seq = .high j) ∨ (k = 15 ∧ t.seq = .idle))
    | .timerMatch => t.hst = s.hst ∧ t.seq = s.seq
    | .envPort _ => t.hst = s.hst ∧ t.seq = s.seq
    | .attach _ => s.hst = .ready ∧ t.hst = .ready ∧ t.seq = s.seq
    | .setThrottle _ _ => s.hst = .ready ∧ t.hst = .ready ∧ t.seq = s.seq
    | .encode _ => s.hst = .ready ∧ t.hst = .ready ∧ t.seq = s.seq

/-- R11: after the first ATTACH has completed no bit of `attached_pins` goes from 1 to 0. -/
def Obligations.AttachedBitsNeverFall : Prop :=
  ∀ (s t : State) (p : Pin), s.Inv → step s = .next t → s.attached p = true → t.attached p = true

/-- R12, R112: no step clears `timer_active`. -/
def Obligations.TimerNeverStops : Prop :=
  ∀ s t : State, step s = .next t → s.timerActive = true → t.timerActive = true

/-- R20, R59, R152: the response is valid only from the last micro-step of a command to the next ISSUE; the host then
reads `RSP`. -/
def Obligations.ResponseValidOnlyWhenReady : Prop :=
  (∀ s t : State, (s.rspValid = true → s.hst = .ready) → step s = .next t → (t.rspValid = true → t.hst = .ready)) ∧
  (∀ (s : State) (n : Nat), s.rspValid = true → s.readRsp n = s.rsp)

/-! ### Invariants (R22, R23) -/

/-- R22, R23, R25: the invariant holds after reset. -/
def Obligations.ResetMeetsTheInvariant : Prop := State.reset.Inv

/-- R22, R23 (and R13, R17, R18, R19, R73, R80, R90, R91, R112, R121): every step keeps the invariant. -/
def Obligations.StepKeepsTheInvariant : Prop := ∀ s t : State, s.Inv → step s = .next t → t.Inv

/-- R22: "Pins never attached must read as logical 1 in every bit-plane entry", in every run from reset, whatever moves
are made (log 1). -/
def Obligations.NeverAttachedReadsOne : Prop :=
  ∀ (moves : List Move) (t : State), Reach { State.reset with sched := moves } t →
    ∀ p : Pin, t.attached p = false → ¬(t.hst = .reg ∧ t.cmdPin = p) → ∀ i : Pos, t.storeBit i p = true

/-! ### Progress (R41) -/

/-- R41: a SET_THROTTLE whose ST_UPD(k) is next finishes after its 16 - k steps, and what it leaves of the store. -/
def Obligations.UpdateFinishes : Prop :=
  ∀ (s : State) (k : Pos), s.hst = .upd k → s.seq = .idle →
    ∃ t, execAll ((positions.drop k).map .stUpd) s = .next t ∧ t.hst = .ready ∧ t.rspValid = true ∧
      t.rsp = s.packet s.cmdPin ∧
      ∀ (i : Pos) (q : Pin), t.storeBit i q =
        if q = s.cmdPin ∧ k ≤ i then frameBit (s.packet s.cmdPin) i else s.storeBit i q

/-! ### The cycle-timed view (R100, R101, R108) -/

/-- R5, R148: the OPEN parameters meet their constraints, whatever the implementation chose (log 14). -/
def Obligations.TimingConstraints : Prop :=
  Config.timing.tickPeriod ≤ 2 ^ 16 ∧ 1 ≤ Config.timing.nH ∧ 1 ≤ Config.timing.nD ∧ 1 ≤ Config.timing.nL ∧
  Config.timing.tickPeriod * 1000 = Config.timing.fClk ∧
  Config.timing.lIsr + 16 * (Config.timing.nH + Config.timing.nD + Config.timing.nL) < Config.timing.tickPeriod

/-- R100: from a cleared counter the running timer counts cycle by cycle, matches in the last cycle of a period and in
no other, and is then cleared again: the first match is `TICK_PERIOD` cycles after AT_SETUP, and matches are that far
apart. While `timer_active = 0` the counter stands still and no match occurs. The cycles are those of the free-running
block (log 15). -/
def Obligations.TimerPeriod : Prop :=
  ∀ s : State,
    (s.timerActive = true → s.tcnt = 0 → s.tcmp = BitVec.ofNat 16 (Config.timing.tickPeriod - 1) →
      (∀ n : Nat, n < Config.timing.tickPeriod → (cycles n s).tcnt.toNat = n ∧
        ((cycles n s).matchDue = true ↔ n = Config.timing.tickPeriod - 1)) ∧
      (cycles Config.timing.tickPeriod s).tcnt = 0 ∧ (cycles Config.timing.tickPeriod s).timerActive = true ∧
      (cycles Config.timing.tickPeriod s).tcmp = s.tcmp) ∧
    (s.timerActive = false → s.matchDue = false ∧
      ∀ b : Bool, (s.cycle b).tcnt = s.tcnt ∧ ((s.cycle b).tickPending = true → s.tickPending = true))

/-- R108: the waveform on an attached pin, cycle by cycle, from the cycle in which TX_HIGH(0) wrote PORT: in slot `i`
the pin is high for `N_H` cycles, for `N_D` more where entry `i` has its bit, and low for the rest of `N_BIT`. The order
of events in a cycle and the field `hold` are the model's choice (logs 15 and 16). -/
def Obligations.WaveformOnAttachedPin : Prop :=
  ∀ (s : State) (q : Pin), s.seq = .data 0 → s.hold = Config.timing.nH → s.draining = false →
    s.attached q = true → s.port.getLsbD q = true →
    ∀ (i : Pos) (r : Nat), r < Config.timing.nBit →
      (cycles (i * Config.timing.nBit + r) s).port.getLsbD q =
        (decide (r < Config.timing.nH) || (decide (r < Config.timing.nH + Config.timing.nD) && s.storeBit i q))

/-- R100, R102, R108 with the model's choice that a free-running block takes a tick at once (log 15): TX_START falls in
the cycle of the match, the first TX_HIGH writes PORT `L_ISR` cycles later, and the transmission ends `16 * N_BIT`
cycles after that write, with `seq` IDLE and interrupts enabled. The fields `hold` and
`draining` that the statement names are the model's too (log 16). -/
def Obligations.TransmissionLasts : Prop :=
  ∀ s : State, s.seq = .idle → s.draining = false → s.timerActive = true → s.irqEn = true → s.tcnt = s.tcmp →
    s.tcmp = BitVec.ofNat 16 (Config.timing.tickPeriod - 1) →
    (∀ n : Nat, 1 ≤ n → n < 1 + Config.timing.lIsr → (cycles n s).port = s.port ∧ (cycles n s).seq = .high 0) ∧
    (cycles (1 + Config.timing.lIsr) s).port = s.port ||| s.attachedPins ∧
    (cycles (1 + Config.timing.lIsr) s).seq = .data 0 ∧
    (cycles (1 + Config.timing.lIsr) s).hold = Config.timing.nH ∧
    (∀ n : Nat, 1 ≤ n → n < 1 + Config.timing.lIsr + 16 * Config.timing.nBit → (cycles n s).seq ≠ .idle) ∧
    (cycles (1 + Config.timing.lIsr + 16 * Config.timing.nBit) s).seq = .idle ∧
    (cycles (1 + Config.timing.lIsr + 16 * Config.timing.nBit) s).irqEn = true

/-- R101: every run of the cycle-timed block is a run of the untimed model: what one clock cycle does to the untimed part
of the state, some steps of the timer and the transmitter do. -/
def Obligations.TimedCycleIsUntimedSteps : Prop :=
  ∀ (s : State) (b : Bool), s.DrainFits →
    ∃ l : List Instr, (∀ i ∈ l, isHandlerStep i = true) ∧ execAll l s.untimed = .next (s.cycle b).untimed
end

