-- ==== Sys2Proof/Laws/State.lean ====
section
/-! SUPPORT. One lemma for each field under each named update of Machine/Ops.lean, true by rfl: no proof unfolds a
record update. The reads of the store, the channel file and `attached_pins` follow the same way. -/

namespace Sys2Proof.Machine

section
variable (s : State)

/-! `memWrite` (R7, R34). -/

@[simp] theorem State.memWrite_bitPlane (i : Pos) (v : Mask) : (s.memWrite i v).bitPlane = s.bitPlane.set i v := rfl
@[simp] theorem State.memWrite_attachedPins (i : Pos) (v : Mask) : (s.memWrite i v).attachedPins = s.attachedPins := rfl
@[simp] theorem State.memWrite_timerActive (i : Pos) (v : Mask) : (s.memWrite i v).timerActive = s.timerActive := rfl
@[simp] theorem State.memWrite_chan (i : Pos) (v : Mask) : (s.memWrite i v).chan = s.chan := rfl
@[simp] theorem State.memWrite_port (i : Pos) (v : Mask) : (s.memWrite i v).port = s.port := rfl
@[simp] theorem State.memWrite_seq (i : Pos) (v : Mask) : (s.memWrite i v).seq = s.seq := rfl
@[simp] theorem State.memWrite_hst (i : Pos) (v : Mask) : (s.memWrite i v).hst = s.hst := rfl
@[simp] theorem State.memWrite_cmdPin (i : Pos) (v : Mask) : (s.memWrite i v).cmdPin = s.cmdPin := rfl
@[simp] theorem State.memWrite_cmdThr (i : Pos) (v : Mask) : (s.memWrite i v).cmdThr = s.cmdThr := rfl
@[simp] theorem State.memWrite_irqEn (i : Pos) (v : Mask) : (s.memWrite i v).irqEn = s.irqEn := rfl
@[simp] theorem State.memWrite_tickPending (i : Pos) (v : Mask) : (s.memWrite i v).tickPending = s.tickPending := rfl
@[simp] theorem State.memWrite_tcnt (i : Pos) (v : Mask) : (s.memWrite i v).tcnt = s.tcnt := rfl
@[simp] theorem State.memWrite_tcmp (i : Pos) (v : Mask) : (s.memWrite i v).tcmp = s.tcmp := rfl
@[simp] theorem State.memWrite_rsp (i : Pos) (v : Mask) : (s.memWrite i v).rsp = s.rsp := rfl
@[simp] theorem State.memWrite_rspValid (i : Pos) (v : Mask) : (s.memWrite i v).rspValid = s.rspValid := rfl
@[simp] theorem State.memWrite_cmd (i : Pos) (v : Mask) : (s.memWrite i v).cmd = s.cmd := rfl
@[simp] theorem State.memWrite_hold (i : Pos) (v : Mask) : (s.memWrite i v).hold = s.hold := rfl
@[simp] theorem State.memWrite_draining (i : Pos) (v : Mask) : (s.memWrite i v).draining = s.draining := rfl
@[simp] theorem State.memWrite_sched (i : Pos) (v : Mask) : (s.memWrite i v).sched = s.sched := rfl

/-! `fillStore` (R82). -/

@[simp] theorem State.fillStore_bitPlane : s.fillStore.bitPlane = Vector.replicate 16 Config.bpFill := rfl
@[simp] theorem State.fillStore_attachedPins : s.fillStore.attachedPins = s.attachedPins := rfl
@[simp] theorem State.fillStore_timerActive : s.fillStore.timerActive = s.timerActive := rfl
@[simp] theorem State.fillStore_chan : s.fillStore.chan = s.chan := rfl
@[simp] theorem State.fillStore_port : s.fillStore.port = s.port := rfl
@[simp] theorem State.fillStore_seq : s.fillStore.seq = s.seq := rfl
@[simp] theorem State.fillStore_hst : s.fillStore.hst = s.hst := rfl
@[simp] theorem State.fillStore_cmdPin : s.fillStore.cmdPin = s.cmdPin := rfl
@[simp] theorem State.fillStore_cmdThr : s.fillStore.cmdThr = s.cmdThr := rfl
@[simp] theorem State.fillStore_irqEn : s.fillStore.irqEn = s.irqEn := rfl
@[simp] theorem State.fillStore_tickPending : s.fillStore.tickPending = s.tickPending := rfl
@[simp] theorem State.fillStore_tcnt : s.fillStore.tcnt = s.tcnt := rfl
@[simp] theorem State.fillStore_tcmp : s.fillStore.tcmp = s.tcmp := rfl
@[simp] theorem State.fillStore_rsp : s.fillStore.rsp = s.rsp := rfl
@[simp] theorem State.fillStore_rspValid : s.fillStore.rspValid = s.rspValid := rfl
@[simp] theorem State.fillStore_cmd : s.fillStore.cmd = s.cmd := rfl
@[simp] theorem State.fillStore_hold : s.fillStore.hold = s.hold := rfl
@[simp] theorem State.fillStore_draining : s.fillStore.draining = s.draining := rfl
@[simp] theorem State.fillStore_sched : s.fillStore.sched = s.sched := rfl

/-! `clearColumn` (R83). -/

@[simp] theorem State.clearColumn_bitPlane (p : Pin) : (s.clearColumn p).bitPlane = s.bitPlane.map fun v => v &&& ~~~ mask p := by
  ext i hi; simp [State.clearColumn]
@[simp] theorem State.clearColumn_attachedPins (p : Pin) : (s.clearColumn p).attachedPins = s.attachedPins := rfl
@[simp] theorem State.clearColumn_timerActive (p : Pin) : (s.clearColumn p).timerActive = s.timerActive := rfl
@[simp] theorem State.clearColumn_chan (p : Pin) : (s.clearColumn p).chan = s.chan := rfl
@[simp] theorem State.clearColumn_port (p : Pin) : (s.clearColumn p).port = s.port := rfl
@[simp] theorem State.clearColumn_seq (p : Pin) : (s.clearColumn p).seq = s.seq := rfl
@[simp] theorem State.clearColumn_hst (p : Pin) : (s.clearColumn p).hst = s.hst := rfl
@[simp] theorem State.clearColumn_cmdPin (p : Pin) : (s.clearColumn p).cmdPin = s.cmdPin := rfl
@[simp] theorem State.clearColumn_cmdThr (p : Pin) : (s.clearColumn p).cmdThr = s.cmdThr := rfl
@[simp] theorem State.clearColumn_irqEn (p : Pin) : (s.clearColumn p).irqEn = s.irqEn := rfl
@[simp] theorem State.clearColumn_tickPending (p : Pin) : (s.clearColumn p).tickPending = s.tickPending := rfl
@[simp] theorem State.clearColumn_tcnt (p : Pin) : (s.clearColumn p).tcnt = s.tcnt := rfl
@[simp] theorem State.clearColumn_tcmp (p : Pin) : (s.clearColumn p).tcmp = s.tcmp := rfl
@[simp] theorem State.clearColumn_rsp (p : Pin) : (s.clearColumn p).rsp = s.rsp := rfl
@[simp] theorem State.clearColumn_rspValid (p : Pin) : (s.clearColumn p).rspValid = s.rspValid := rfl
@[simp] theorem State.clearColumn_cmd (p : Pin) : (s.clearColumn p).cmd = s.cmd := rfl
@[simp] theorem State.clearColumn_hold (p : Pin) : (s.clearColumn p).hold = s.hold := rfl
@[simp] theorem State.clearColumn_draining (p : Pin) : (s.clearColumn p).draining = s.draining := rfl
@[simp] theorem State.clearColumn_sched (p : Pin) : (s.clearColumn p).sched = s.sched := rfl

/-! `setChannel` (R13). -/

@[simp] theorem State.setChannel_bitPlane (p : Pin) (t : Throttle) (f : Frame) : (s.setChannel p t f).bitPlane = s.bitPlane := rfl
@[simp] theorem State.setChannel_attachedPins (p : Pin) (t : Throttle) (f : Frame) : (s.setChannel p t f).attachedPins = s.attachedPins := rfl
@[simp] theorem State.setChannel_timerActive (p : Pin) (t : Throttle) (f : Frame) : (s.setChannel p t f).timerActive = s.timerActive := rfl
@[simp] theorem State.setChannel_chan (p : Pin) (t : Throttle) (f : Frame) : (s.setChannel p t f).chan = s.chan.set p (some { throttle := t, packet := f }) := rfl
@[simp] theorem State.setChannel_port (p : Pin) (t : Throttle) (f : Frame) : (s.setChannel p t f).port = s.port := rfl
@[simp] theorem State.setChannel_seq (p : Pin) (t : Throttle) (f : Frame) : (s.setChannel p t f).seq = s.seq := rfl
@[simp] theorem State.setChannel_hst (p : Pin) (t : Throttle) (f : Frame) : (s.setChannel p t f).hst = s.hst := rfl
@[simp] theorem State.setChannel_cmdPin (p : Pin) (t : Throttle) (f : Frame) : (s.setChannel p t f).cmdPin = s.cmdPin := rfl
@[simp] theorem State.setChannel_cmdThr (p : Pin) (t : Throttle) (f : Frame) : (s.setChannel p t f).cmdThr = s.cmdThr := rfl
@[simp] theorem State.setChannel_irqEn (p : Pin) (t : Throttle) (f : Frame) : (s.setChannel p t f).irqEn = s.irqEn := rfl
@[simp] theorem State.setChannel_tickPending (p : Pin) (t : Throttle) (f : Frame) : (s.setChannel p t f).tickPending = s.tickPending := rfl
@[simp] theorem State.setChannel_tcnt (p : Pin) (t : Throttle) (f : Frame) : (s.setChannel p t f).tcnt = s.tcnt := rfl
@[simp] theorem State.setChannel_tcmp (p : Pin) (t : Throttle) (f : Frame) : (s.setChannel p t f).tcmp = s.tcmp := rfl
@[simp] theorem State.setChannel_rsp (p : Pin) (t : Throttle) (f : Frame) : (s.setChannel p t f).rsp = s.rsp := rfl
@[simp] theorem State.setChannel_rspValid (p : Pin) (t : Throttle) (f : Frame) : (s.setChannel p t f).rspValid = s.rspValid := rfl
@[simp] theorem State.setChannel_cmd (p : Pin) (t : Throttle) (f : Frame) : (s.setChannel p t f).cmd = s.cmd := rfl
@[simp] theorem State.setChannel_hold (p : Pin) (t : Throttle) (f : Frame) : (s.setChannel p t f).hold = s.hold := rfl
@[simp] theorem State.setChannel_draining (p : Pin) (t : Throttle) (f : Frame) : (s.setChannel p t f).draining = s.draining := rfl
@[simp] theorem State.setChannel_sched (p : Pin) (t : Throttle) (f : Frame) : (s.setChannel p t f).sched = s.sched := rfl

/-! `register` (R84). -/

@[simp] theorem State.register_bitPlane (p : Pin) : (s.register p).bitPlane = s.bitPlane := rfl
@[simp] theorem State.register_attachedPins (p : Pin) : (s.register p).attachedPins = s.attachedPins ||| mask p := rfl
@[simp] theorem State.register_timerActive (p : Pin) : (s.register p).timerActive = s.timerActive := rfl
@[simp] theorem State.register_chan (p : Pin) : (s.register p).chan = s.chan := rfl
@[simp] theorem State.register_port (p : Pin) : (s.register p).port = s.port := rfl
@[simp] theorem State.register_seq (p : Pin) : (s.register p).seq = s.seq := rfl
@[simp] theorem State.register_hst (p : Pin) : (s.register p).hst = s.hst := rfl
@[simp] theorem State.register_cmdPin (p : Pin) : (s.register p).cmdPin = s.cmdPin := rfl
@[simp] theorem State.register_cmdThr (p : Pin) : (s.register p).cmdThr = s.cmdThr := rfl
@[simp] theorem State.register_irqEn (p : Pin) : (s.register p).irqEn = s.irqEn := rfl
@[simp] theorem State.register_tickPending (p : Pin) : (s.register p).tickPending = s.tickPending := rfl
@[simp] theorem State.register_tcnt (p : Pin) : (s.register p).tcnt = s.tcnt := rfl
@[simp] theorem State.register_tcmp (p : Pin) : (s.register p).tcmp = s.tcmp := rfl
@[simp] theorem State.register_rsp (p : Pin) : (s.register p).rsp = s.rsp := rfl
@[simp] theorem State.register_rspValid (p : Pin) : (s.register p).rspValid = s.rspValid := rfl
@[simp] theorem State.register_cmd (p : Pin) : (s.register p).cmd = s.cmd := rfl
@[simp] theorem State.register_hold (p : Pin) : (s.register p).hold = s.hold := rfl
@[simp] theorem State.register_draining (p : Pin) : (s.register p).draining = s.draining := rfl
@[simp] theorem State.register_sched (p : Pin) : (s.register p).sched = s.sched := rfl

/-! `detachAll` (R82). -/

@[simp] theorem State.detachAll_bitPlane : s.detachAll.bitPlane = s.bitPlane := rfl
@[simp] theorem State.detachAll_attachedPins : s.detachAll.attachedPins = 0 := rfl
@[simp] theorem State.detachAll_timerActive : s.detachAll.timerActive = s.timerActive := rfl
@[simp] theorem State.detachAll_chan : s.detachAll.chan = s.chan := rfl
@[simp] theorem State.detachAll_port : s.detachAll.port = s.port := rfl
@[simp] theorem State.detachAll_seq : s.detachAll.seq = s.seq := rfl
@[simp] theorem State.detachAll_hst : s.detachAll.hst = s.hst := rfl
@[simp] theorem State.detachAll_cmdPin : s.detachAll.cmdPin = s.cmdPin := rfl
@[simp] theorem State.detachAll_cmdThr : s.detachAll.cmdThr = s.cmdThr := rfl
@[simp] theorem State.detachAll_irqEn : s.detachAll.irqEn = s.irqEn := rfl
@[simp] theorem State.detachAll_tickPending : s.detachAll.tickPending = s.tickPending := rfl
@[simp] theorem State.detachAll_tcnt : s.detachAll.tcnt = s.tcnt := rfl
@[simp] theorem State.detachAll_tcmp : s.detachAll.tcmp = s.tcmp := rfl
@[simp] theorem State.detachAll_rsp : s.detachAll.rsp = s.rsp := rfl
@[simp] theorem State.detachAll_rspValid : s.detachAll.rspValid = s.rspValid := rfl
@[simp] theorem State.detachAll_cmd : s.detachAll.cmd = s.cmd := rfl
@[simp] theorem State.detachAll_hold : s.detachAll.hold = s.hold := rfl
@[simp] theorem State.detachAll_draining : s.detachAll.draining = s.draining := rfl
@[simp] theorem State.detachAll_sched : s.detachAll.sched = s.sched := rfl

/-! `writePort` (R14). -/

@[simp] theorem State.writePort_bitPlane (v : Mask) : (s.writePort v).bitPlane = s.bitPlane := rfl
@[simp] theorem State.writePort_attachedPins (v : Mask) : (s.writePort v).attachedPins = s.attachedPins := rfl
@[simp] theorem State.writePort_timerActive (v : Mask) : (s.writePort v).timerActive = s.timerActive := rfl
@[simp] theorem State.writePort_chan (v : Mask) : (s.writePort v).chan = s.chan := rfl
@[simp] theorem State.writePort_port (v : Mask) : (s.writePort v).port = v := rfl
@[simp] theorem State.writePort_seq (v : Mask) : (s.writePort v).seq = s.seq := rfl
@[simp] theorem State.writePort_hst (v : Mask) : (s.writePort v).hst = s.hst := rfl
@[simp] theorem State.writePort_cmdPin (v : Mask) : (s.writePort v).cmdPin = s.cmdPin := rfl
@[simp] theorem State.writePort_cmdThr (v : Mask) : (s.writePort v).cmdThr = s.cmdThr := rfl
@[simp] theorem State.writePort_irqEn (v : Mask) : (s.writePort v).irqEn = s.irqEn := rfl
@[simp] theorem State.writePort_tickPending (v : Mask) : (s.writePort v).tickPending = s.tickPending := rfl
@[simp] theorem State.writePort_tcnt (v : Mask) : (s.writePort v).tcnt = s.tcnt := rfl
@[simp] theorem State.writePort_tcmp (v : Mask) : (s.writePort v).tcmp = s.tcmp := rfl
@[simp] theorem State.writePort_rsp (v : Mask) : (s.writePort v).rsp = s.rsp := rfl
@[simp] theorem State.writePort_rspValid (v : Mask) : (s.writePort v).rspValid = s.rspValid := rfl
@[simp] theorem State.writePort_cmd (v : Mask) : (s.writePort v).cmd = s.cmd := rfl
@[simp] theorem State.writePort_hold (v : Mask) : (s.writePort v).hold = s.hold := rfl
@[simp] theorem State.writePort_draining (v : Mask) : (s.writePort v).draining = s.draining := rfl
@[simp] theorem State.writePort_sched (v : Mask) : (s.writePort v).sched = s.sched := rfl

/-! `setSeq` (R15). -/

@[simp] theorem State.setSeq_bitPlane (q : Seq) : (s.setSeq q).bitPlane = s.bitPlane := rfl
@[simp] theorem State.setSeq_attachedPins (q : Seq) : (s.setSeq q).attachedPins = s.attachedPins := rfl
@[simp] theorem State.setSeq_timerActive (q : Seq) : (s.setSeq q).timerActive = s.timerActive := rfl
@[simp] theorem State.setSeq_chan (q : Seq) : (s.setSeq q).chan = s.chan := rfl
@[simp] theorem State.setSeq_port (q : Seq) : (s.setSeq q).port = s.port := rfl
@[simp] theorem State.setSeq_seq (q : Seq) : (s.setSeq q).seq = q := rfl
@[simp] theorem State.setSeq_hst (q : Seq) : (s.setSeq q).hst = s.hst := rfl
@[simp] theorem State.setSeq_cmdPin (q : Seq) : (s.setSeq q).cmdPin = s.cmdPin := rfl
@[simp] theorem State.setSeq_cmdThr (q : Seq) : (s.setSeq q).cmdThr = s.cmdThr := rfl
@[simp] theorem State.setSeq_irqEn (q : Seq) : (s.setSeq q).irqEn = s.irqEn := rfl
@[simp] theorem State.setSeq_tickPending (q : Seq) : (s.setSeq q).tickPending = s.tickPending := rfl
@[simp] theorem State.setSeq_tcnt (q : Seq) : (s.setSeq q).tcnt = s.tcnt := rfl
@[simp] theorem State.setSeq_tcmp (q : Seq) : (s.setSeq q).tcmp = s.tcmp := rfl
@[simp] theorem State.setSeq_rsp (q : Seq) : (s.setSeq q).rsp = s.rsp := rfl
@[simp] theorem State.setSeq_rspValid (q : Seq) : (s.setSeq q).rspValid = s.rspValid := rfl
@[simp] theorem State.setSeq_cmd (q : Seq) : (s.setSeq q).cmd = s.cmd := rfl
@[simp] theorem State.setSeq_hold (q : Seq) : (s.setSeq q).hold = s.hold := rfl
@[simp] theorem State.setSeq_draining (q : Seq) : (s.setSeq q).draining = s.draining := rfl
@[simp] theorem State.setSeq_sched (q : Seq) : (s.setSeq q).sched = s.sched := rfl

/-! `setHst` (R16). -/

@[simp] theorem State.setHst_bitPlane (h : Hst) : (s.setHst h).bitPlane = s.bitPlane := rfl
@[simp] theorem State.setHst_attachedPins (h : Hst) : (s.setHst h).attachedPins = s.attachedPins := rfl
@[simp] theorem State.setHst_timerActive (h : Hst) : (s.setHst h).timerActive = s.timerActive := rfl
@[simp] theorem State.setHst_chan (h : Hst) : (s.setHst h).chan = s.chan := rfl
@[simp] theorem State.setHst_port (h : Hst) : (s.setHst h).port = s.port := rfl
@[simp] theorem State.setHst_seq (h : Hst) : (s.setHst h).seq = s.seq := rfl
@[simp] theorem State.setHst_hst (h : Hst) : (s.setHst h).hst = h := rfl
@[simp] theorem State.setHst_cmdPin (h : Hst) : (s.setHst h).cmdPin = s.cmdPin := rfl
@[simp] theorem State.setHst_cmdThr (h : Hst) : (s.setHst h).cmdThr = s.cmdThr := rfl
@[simp] theorem State.setHst_irqEn (h : Hst) : (s.setHst h).irqEn = s.irqEn := rfl
@[simp] theorem State.setHst_tickPending (h : Hst) : (s.setHst h).tickPending = s.tickPending := rfl
@[simp] theorem State.setHst_tcnt (h : Hst) : (s.setHst h).tcnt = s.tcnt := rfl
@[simp] theorem State.setHst_tcmp (h : Hst) : (s.setHst h).tcmp = s.tcmp := rfl
@[simp] theorem State.setHst_rsp (h : Hst) : (s.setHst h).rsp = s.rsp := rfl
@[simp] theorem State.setHst_rspValid (h : Hst) : (s.setHst h).rspValid = s.rspValid := rfl
@[simp] theorem State.setHst_cmd (h : Hst) : (s.setHst h).cmd = s.cmd := rfl
@[simp] theorem State.setHst_hold (h : Hst) : (s.setHst h).hold = s.hold := rfl
@[simp] theorem State.setHst_draining (h : Hst) : (s.setHst h).draining = s.draining := rfl
@[simp] theorem State.setHst_sched (h : Hst) : (s.setHst h).sched = s.sched := rfl

/-! `latchPin` (R80). -/

@[simp] theorem State.latchPin_bitPlane (p : Pin) : (s.latchPin p).bitPlane = s.bitPlane := rfl
@[simp] theorem State.latchPin_attachedPins (p : Pin) : (s.latchPin p).attachedPins = s.attachedPins := rfl
@[simp] theorem State.latchPin_timerActive (p : Pin) : (s.latchPin p).timerActive = s.timerActive := rfl
@[simp] theorem State.latchPin_chan (p : Pin) : (s.latchPin p).chan = s.chan := rfl
@[simp] theorem State.latchPin_port (p : Pin) : (s.latchPin p).port = s.port := rfl
@[simp] theorem State.latchPin_seq (p : Pin) : (s.latchPin p).seq = s.seq := rfl
@[simp] theorem State.latchPin_hst (p : Pin) : (s.latchPin p).hst = s.hst := rfl
@[simp] theorem State.latchPin_cmdPin (p : Pin) : (s.latchPin p).cmdPin = p := rfl
@[simp] theorem State.latchPin_cmdThr (p : Pin) : (s.latchPin p).cmdThr = s.cmdThr := rfl
@[simp] theorem State.latchPin_irqEn (p : Pin) : (s.latchPin p).irqEn = s.irqEn := rfl
@[simp] theorem State.latchPin_tickPending (p : Pin) : (s.latchPin p).tickPending = s.tickPending := rfl
@[simp] theorem State.latchPin_tcnt (p : Pin) : (s.latchPin p).tcnt = s.tcnt := rfl
@[simp] theorem State.latchPin_tcmp (p : Pin) : (s.latchPin p).tcmp = s.tcmp := rfl
@[simp] theorem State.latchPin_rsp (p : Pin) : (s.latchPin p).rsp = s.rsp := rfl
@[simp] theorem State.latchPin_rspValid (p : Pin) : (s.latchPin p).rspValid = false := rfl
@[simp] theorem State.latchPin_cmd (p : Pin) : (s.latchPin p).cmd = s.cmd := rfl
@[simp] theorem State.latchPin_hold (p : Pin) : (s.latchPin p).hold = s.hold := rfl
@[simp] theorem State.latchPin_draining (p : Pin) : (s.latchPin p).draining = s.draining := rfl
@[simp] theorem State.latchPin_sched (p : Pin) : (s.latchPin p).sched = s.sched := rfl

/-! `latchThrottle` (R80). -/

@[simp] theorem State.latchThrottle_bitPlane (t : Throttle) : (s.latchThrottle t).bitPlane = s.bitPlane := rfl
@[simp] theorem State.latchThrottle_attachedPins (t : Throttle) : (s.latchThrottle t).attachedPins = s.attachedPins := rfl
@[simp] theorem State.latchThrottle_timerActive (t : Throttle) : (s.latchThrottle t).timerActive = s.timerActive := rfl
@[simp] theorem State.latchThrottle_chan (t : Throttle) : (s.latchThrottle t).chan = s.chan := rfl
@[simp] theorem State.latchThrottle_port (t : Throttle) : (s.latchThrottle t).port = s.port := rfl
@[simp] theorem State.latchThrottle_seq (t : Throttle) : (s.latchThrottle t).seq = s.seq := rfl
@[simp] theorem State.latchThrottle_hst (t : Throttle) : (s.latchThrottle t).hst = s.hst := rfl
@[simp] theorem State.latchThrottle_cmdPin (t : Throttle) : (s.latchThrottle t).cmdPin = s.cmdPin := rfl
@[simp] theorem State.latchThrottle_cmdThr (t : Throttle) : (s.latchThrottle t).cmdThr = t := rfl
@[simp] theorem State.latchThrottle_irqEn (t : Throttle) : (s.latchThrottle t).irqEn = s.irqEn := rfl
@[simp] theorem State.latchThrottle_tickPending (t : Throttle) : (s.latchThrottle t).tickPending = s.tickPending := rfl
@[simp] theorem State.latchThrottle_tcnt (t : Throttle) : (s.latchThrottle t).tcnt = s.tcnt := rfl
@[simp] theorem State.latchThrottle_tcmp (t : Throttle) : (s.latchThrottle t).tcmp = s.tcmp := rfl
@[simp] theorem State.latchThrottle_rsp (t : Throttle) : (s.latchThrottle t).rsp = s.rsp := rfl
@[simp] theorem State.latchThrottle_rspValid (t : Throttle) : (s.latchThrottle t).rspValid = s.rspValid := rfl
@[simp] theorem State.latchThrottle_cmd (t : Throttle) : (s.latchThrottle t).cmd = s.cmd := rfl
@[simp] theorem State.latchThrottle_hold (t : Throttle) : (s.latchThrottle t).hold = s.hold := rfl
@[simp] theorem State.latchThrottle_draining (t : Throttle) : (s.latchThrottle t).draining = s.draining := rfl
@[simp] theorem State.latchThrottle_sched (t : Throttle) : (s.latchThrottle t).sched = s.sched := rfl

/-! `setCmd` (R50). -/

@[simp] theorem State.setCmd_bitPlane (c : Option CmdWord) : (s.setCmd c).bitPlane = s.bitPlane := rfl
@[simp] theorem State.setCmd_attachedPins (c : Option CmdWord) : (s.setCmd c).attachedPins = s.attachedPins := rfl
@[simp] theorem State.setCmd_timerActive (c : Option CmdWord) : (s.setCmd c).timerActive = s.timerActive := rfl
@[simp] theorem State.setCmd_chan (c : Option CmdWord) : (s.setCmd c).chan = s.chan := rfl
@[simp] theorem State.setCmd_port (c : Option CmdWord) : (s.setCmd c).port = s.port := rfl
@[simp] theorem State.setCmd_seq (c : Option CmdWord) : (s.setCmd c).seq = s.seq := rfl
@[simp] theorem State.setCmd_hst (c : Option CmdWord) : (s.setCmd c).hst = s.hst := rfl
@[simp] theorem State.setCmd_cmdPin (c : Option CmdWord) : (s.setCmd c).cmdPin = s.cmdPin := rfl
@[simp] theorem State.setCmd_cmdThr (c : Option CmdWord) : (s.setCmd c).cmdThr = s.cmdThr := rfl
@[simp] theorem State.setCmd_irqEn (c : Option CmdWord) : (s.setCmd c).irqEn = s.irqEn := rfl
@[simp] theorem State.setCmd_tickPending (c : Option CmdWord) : (s.setCmd c).tickPending = s.tickPending := rfl
@[simp] theorem State.setCmd_tcnt (c : Option CmdWord) : (s.setCmd c).tcnt = s.tcnt := rfl
@[simp] theorem State.setCmd_tcmp (c : Option CmdWord) : (s.setCmd c).tcmp = s.tcmp := rfl
@[simp] theorem State.setCmd_rsp (c : Option CmdWord) : (s.setCmd c).rsp = s.rsp := rfl
@[simp] theorem State.setCmd_rspValid (c : Option CmdWord) : (s.setCmd c).rspValid = s.rspValid := rfl
@[simp] theorem State.setCmd_cmd (c : Option CmdWord) : (s.setCmd c).cmd = c := rfl
@[simp] theorem State.setCmd_hold (c : Option CmdWord) : (s.setCmd c).hold = s.hold := rfl
@[simp] theorem State.setCmd_draining (c : Option CmdWord) : (s.setCmd c).draining = s.draining := rfl
@[simp] theorem State.setCmd_sched (c : Option CmdWord) : (s.setCmd c).sched = s.sched := rfl

/-! `respond` (R87, R88). -/

@[simp] theorem State.respond_bitPlane (f : Frame) : (s.respond f).bitPlane = s.bitPlane := rfl
@[simp] theorem State.respond_attachedPins (f : Frame) : (s.respond f).attachedPins = s.attachedPins := rfl
@[simp] theorem State.respond_timerActive (f : Frame) : (s.respond f).timerActive = s.timerActive := rfl
@[simp] theorem State.respond_chan (f : Frame) : (s.respond f).chan = s.chan := rfl
@[simp] theorem State.respond_port (f : Frame) : (s.respond f).port = s.port := rfl
@[simp] theorem State.respond_seq (f : Frame) : (s.respond f).seq = s.seq := rfl
@[simp] theorem State.respond_hst (f : Frame) : (s.respond f).hst = s.hst := rfl
@[simp] theorem State.respond_cmdPin (f : Frame) : (s.respond f).cmdPin = s.cmdPin := rfl
@[simp] theorem State.respond_cmdThr (f : Frame) : (s.respond f).cmdThr = s.cmdThr := rfl
@[simp] theorem State.respond_irqEn (f : Frame) : (s.respond f).irqEn = s.irqEn := rfl
@[simp] theorem State.respond_tickPending (f : Frame) : (s.respond f).tickPending = s.tickPending := rfl
@[simp] theorem State.respond_tcnt (f : Frame) : (s.respond f).tcnt = s.tcnt := rfl
@[simp] theorem State.respond_tcmp (f : Frame) : (s.respond f).tcmp = s.tcmp := rfl
@[simp] theorem State.respond_rsp (f : Frame) : (s.respond f).rsp = f := rfl
@[simp] theorem State.respond_rspValid (f : Frame) : (s.respond f).rspValid = true := rfl
@[simp] theorem State.respond_cmd (f : Frame) : (s.respond f).cmd = s.cmd := rfl
@[simp] theorem State.respond_hold (f : Frame) : (s.respond f).hold = s.hold := rfl
@[simp] theorem State.respond_draining (f : Frame) : (s.respond f).draining = s.draining := rfl
@[simp] theorem State.respond_sched (f : Frame) : (s.respond f).sched = s.sched := rfl

/-! `armTimer` (R82). -/

@[simp] theorem State.armTimer_bitPlane : s.armTimer.bitPlane = s.bitPlane := rfl
@[simp] theorem State.armTimer_attachedPins : s.armTimer.attachedPins = s.attachedPins := rfl
@[simp] theorem State.armTimer_timerActive : s.armTimer.timerActive = true := rfl
@[simp] theorem State.armTimer_chan : s.armTimer.chan = s.chan := rfl
@[simp] theorem State.armTimer_port : s.armTimer.port = s.port := rfl
@[simp] theorem State.armTimer_seq : s.armTimer.seq = s.seq := rfl
@[simp] theorem State.armTimer_hst : s.armTimer.hst = s.hst := rfl
@[simp] theorem State.armTimer_cmdPin : s.armTimer.cmdPin = s.cmdPin := rfl
@[simp] theorem State.armTimer_cmdThr : s.armTimer.cmdThr = s.cmdThr := rfl
@[simp] theorem State.armTimer_irqEn : s.armTimer.irqEn = true := rfl
@[simp] theorem State.armTimer_tickPending : s.armTimer.tickPending = false := rfl
@[simp] theorem State.armTimer_tcnt : s.armTimer.tcnt = 0 := rfl
@[simp] theorem State.armTimer_tcmp : s.armTimer.tcmp = BitVec.ofNat 16 (Config.timing.tickPeriod - 1) := rfl
@[simp] theorem State.armTimer_rsp : s.armTimer.rsp = s.rsp := rfl
@[simp] theorem State.armTimer_rspValid : s.armTimer.rspValid = s.rspValid := rfl
@[simp] theorem State.armTimer_cmd : s.armTimer.cmd = s.cmd := rfl
@[simp] theorem State.armTimer_hold : s.armTimer.hold = s.hold := rfl
@[simp] theorem State.armTimer_draining : s.armTimer.draining = s.draining := rfl
@[simp] theorem State.armTimer_sched : s.armTimer.sched = s.sched := rfl

/-! `raiseTick` (R100). -/

@[simp] theorem State.raiseTick_bitPlane : s.raiseTick.bitPlane = s.bitPlane := rfl
@[simp] theorem State.raiseTick_attachedPins : s.raiseTick.attachedPins = s.attachedPins := rfl
@[simp] theorem State.raiseTick_timerActive : s.raiseTick.timerActive = s.timerActive := rfl
@[simp] theorem State.raiseTick_chan : s.raiseTick.chan = s.chan := rfl
@[simp] theorem State.raiseTick_port : s.raiseTick.port = s.port := rfl
@[simp] theorem State.raiseTick_seq : s.raiseTick.seq = s.seq := rfl
@[simp] theorem State.raiseTick_hst : s.raiseTick.hst = s.hst := rfl
@[simp] theorem State.raiseTick_cmdPin : s.raiseTick.cmdPin = s.cmdPin := rfl
@[simp] theorem State.raiseTick_cmdThr : s.raiseTick.cmdThr = s.cmdThr := rfl
@[simp] theorem State.raiseTick_irqEn : s.raiseTick.irqEn = s.irqEn := rfl
@[simp] theorem State.raiseTick_tickPending : s.raiseTick.tickPending = true := rfl
@[simp] theorem State.raiseTick_tcnt : s.raiseTick.tcnt = 0 := rfl
@[simp] theorem State.raiseTick_tcmp : s.raiseTick.tcmp = s.tcmp := rfl
@[simp] theorem State.raiseTick_rsp : s.raiseTick.rsp = s.rsp := rfl
@[simp] theorem State.raiseTick_rspValid : s.raiseTick.rspValid = s.rspValid := rfl
@[simp] theorem State.raiseTick_cmd : s.raiseTick.cmd = s.cmd := rfl
@[simp] theorem State.raiseTick_hold : s.raiseTick.hold = s.hold := rfl
@[simp] theorem State.raiseTick_draining : s.raiseTick.draining = s.draining := rfl
@[simp] theorem State.raiseTick_sched : s.raiseTick.sched = s.sched := rfl

/-! `countCycle` (R100). -/

@[simp] theorem State.countCycle_bitPlane : s.countCycle.bitPlane = s.bitPlane := rfl
@[simp] theorem State.countCycle_attachedPins : s.countCycle.attachedPins = s.attachedPins := rfl
@[simp] theorem State.countCycle_timerActive : s.countCycle.timerActive = s.timerActive := rfl
@[simp] theorem State.countCycle_chan : s.countCycle.chan = s.chan := rfl
@[simp] theorem State.countCycle_port : s.countCycle.port = s.port := rfl
@[simp] theorem State.countCycle_seq : s.countCycle.seq = s.seq := rfl
@[simp] theorem State.countCycle_hst : s.countCycle.hst = s.hst := rfl
@[simp] theorem State.countCycle_cmdPin : s.countCycle.cmdPin = s.cmdPin := rfl
@[simp] theorem State.countCycle_cmdThr : s.countCycle.cmdThr = s.cmdThr := rfl
@[simp] theorem State.countCycle_irqEn : s.countCycle.irqEn = s.irqEn := rfl
@[simp] theorem State.countCycle_tickPending : s.countCycle.tickPending = s.tickPending := rfl
@[simp] theorem State.countCycle_tcnt : s.countCycle.tcnt = s.tcnt + 1 := rfl
@[simp] theorem State.countCycle_tcmp : s.countCycle.tcmp = s.tcmp := rfl
@[simp] theorem State.countCycle_rsp : s.countCycle.rsp = s.rsp := rfl
@[simp] theorem State.countCycle_rspValid : s.countCycle.rspValid = s.rspValid := rfl
@[simp] theorem State.countCycle_cmd : s.countCycle.cmd = s.cmd := rfl
@[simp] theorem State.countCycle_hold : s.countCycle.hold = s.hold := rfl
@[simp] theorem State.countCycle_draining : s.countCycle.draining = s.draining := rfl
@[simp] theorem State.countCycle_sched : s.countCycle.sched = s.sched := rfl

/-! `takeInterrupt` (R102, R123). -/

@[simp] theorem State.takeInterrupt_bitPlane : s.takeInterrupt.bitPlane = s.bitPlane := rfl
@[simp] theorem State.takeInterrupt_attachedPins : s.takeInterrupt.attachedPins = s.attachedPins := rfl
@[simp] theorem State.takeInterrupt_timerActive : s.takeInterrupt.timerActive = s.timerActive := rfl
@[simp] theorem State.takeInterrupt_chan : s.takeInterrupt.chan = s.chan := rfl
@[simp] theorem State.takeInterrupt_port : s.takeInterrupt.port = s.port := rfl
@[simp] theorem State.takeInterrupt_seq : s.takeInterrupt.seq = .high 0 := rfl
@[simp] theorem State.takeInterrupt_hst : s.takeInterrupt.hst = s.hst := rfl
@[simp] theorem State.takeInterrupt_cmdPin : s.takeInterrupt.cmdPin = s.cmdPin := rfl
@[simp] theorem State.takeInterrupt_cmdThr : s.takeInterrupt.cmdThr = s.cmdThr := rfl
@[simp] theorem State.takeInterrupt_irqEn : s.takeInterrupt.irqEn = false := rfl
@[simp] theorem State.takeInterrupt_tickPending : s.takeInterrupt.tickPending = false := rfl
@[simp] theorem State.takeInterrupt_tcnt : s.takeInterrupt.tcnt = s.tcnt := rfl
@[simp] theorem State.takeInterrupt_tcmp : s.takeInterrupt.tcmp = s.tcmp := rfl
@[simp] theorem State.takeInterrupt_rsp : s.takeInterrupt.rsp = s.rsp := rfl
@[simp] theorem State.takeInterrupt_rspValid : s.takeInterrupt.rspValid = s.rspValid := rfl
@[simp] theorem State.takeInterrupt_cmd : s.takeInterrupt.cmd = s.cmd := rfl
@[simp] theorem State.takeInterrupt_hold : s.takeInterrupt.hold = s.hold := rfl
@[simp] theorem State.takeInterrupt_draining : s.takeInterrupt.draining = s.draining := rfl
@[simp] theorem State.takeInterrupt_sched : s.takeInterrupt.sched = s.sched := rfl

/-! `returnFromInterrupt` (R105, R124). -/

@[simp] theorem State.returnFromInterrupt_bitPlane : s.returnFromInterrupt.bitPlane = s.bitPlane := rfl
@[simp] theorem State.returnFromInterrupt_attachedPins : s.returnFromInterrupt.attachedPins = s.attachedPins := rfl
@[simp] theorem State.returnFromInterrupt_timerActive : s.returnFromInterrupt.timerActive = s.timerActive := rfl
@[simp] theorem State.returnFromInterrupt_chan : s.returnFromInterrupt.chan = s.chan := rfl
@[simp] theorem State.returnFromInterrupt_port : s.returnFromInterrupt.port = s.port := rfl
@[simp] theorem State.returnFromInterrupt_seq : s.returnFromInterrupt.seq = .idle := rfl
@[simp] theorem State.returnFromInterrupt_hst : s.returnFromInterrupt.hst = s.hst := rfl
@[simp] theorem State.returnFromInterrupt_cmdPin : s.returnFromInterrupt.cmdPin = s.cmdPin := rfl
@[simp] theorem State.returnFromInterrupt_cmdThr : s.returnFromInterrupt.cmdThr = s.cmdThr := rfl
@[simp] theorem State.returnFromInterrupt_irqEn : s.returnFromInterrupt.irqEn = true := rfl
@[simp] theorem State.returnFromInterrupt_tickPending : s.returnFromInterrupt.tickPending = s.tickPending := rfl
@[simp] theorem State.returnFromInterrupt_tcnt : s.returnFromInterrupt.tcnt = s.tcnt := rfl
@[simp] theorem State.returnFromInterrupt_tcmp : s.returnFromInterrupt.tcmp = s.tcmp := rfl
@[simp] theorem State.returnFromInterrupt_rsp : s.returnFromInterrupt.rsp = s.rsp := rfl
@[simp] theorem State.returnFromInterrupt_rspValid : s.returnFromInterrupt.rspValid = s.rspValid := rfl
@[simp] theorem State.returnFromInterrupt_cmd : s.returnFromInterrupt.cmd = s.cmd := rfl
@[simp] theorem State.returnFromInterrupt_hold : s.returnFromInterrupt.hold = s.hold := rfl
@[simp] theorem State.returnFromInterrupt_draining : s.returnFromInterrupt.draining = s.draining := rfl
@[simp] theorem State.returnFromInterrupt_sched : s.returnFromInterrupt.sched = s.sched := rfl

/-! `setHold` (log 16). -/

@[simp] theorem State.setHold_bitPlane (n : Nat) : (s.setHold n).bitPlane = s.bitPlane := rfl
@[simp] theorem State.setHold_attachedPins (n : Nat) : (s.setHold n).attachedPins = s.attachedPins := rfl
@[simp] theorem State.setHold_timerActive (n : Nat) : (s.setHold n).timerActive = s.timerActive := rfl
@[simp] theorem State.setHold_chan (n : Nat) : (s.setHold n).chan = s.chan := rfl
@[simp] theorem State.setHold_port (n : Nat) : (s.setHold n).port = s.port := rfl
@[simp] theorem State.setHold_seq (n : Nat) : (s.setHold n).seq = s.seq := rfl
@[simp] theorem State.setHold_hst (n : Nat) : (s.setHold n).hst = s.hst := rfl
@[simp] theorem State.setHold_cmdPin (n : Nat) : (s.setHold n).cmdPin = s.cmdPin := rfl
@[simp] theorem State.setHold_cmdThr (n : Nat) : (s.setHold n).cmdThr = s.cmdThr := rfl
@[simp] theorem State.setHold_irqEn (n : Nat) : (s.setHold n).irqEn = s.irqEn := rfl
@[simp] theorem State.setHold_tickPending (n : Nat) : (s.setHold n).tickPending = s.tickPending := rfl
@[simp] theorem State.setHold_tcnt (n : Nat) : (s.setHold n).tcnt = s.tcnt := rfl
@[simp] theorem State.setHold_tcmp (n : Nat) : (s.setHold n).tcmp = s.tcmp := rfl
@[simp] theorem State.setHold_rsp (n : Nat) : (s.setHold n).rsp = s.rsp := rfl
@[simp] theorem State.setHold_rspValid (n : Nat) : (s.setHold n).rspValid = s.rspValid := rfl
@[simp] theorem State.setHold_cmd (n : Nat) : (s.setHold n).cmd = s.cmd := rfl
@[simp] theorem State.setHold_hold (n : Nat) : (s.setHold n).hold = n := rfl
@[simp] theorem State.setHold_draining (n : Nat) : (s.setHold n).draining = s.draining := rfl
@[simp] theorem State.setHold_sched (n : Nat) : (s.setHold n).sched = s.sched := rfl

/-! `setDraining` (log 16). -/

@[simp] theorem State.setDraining_bitPlane (b : Bool) : (s.setDraining b).bitPlane = s.bitPlane := rfl
@[simp] theorem State.setDraining_attachedPins (b : Bool) : (s.setDraining b).attachedPins = s.attachedPins := rfl
@[simp] theorem State.setDraining_timerActive (b : Bool) : (s.setDraining b).timerActive = s.timerActive := rfl
@[simp] theorem State.setDraining_chan (b : Bool) : (s.setDraining b).chan = s.chan := rfl
@[simp] theorem State.setDraining_port (b : Bool) : (s.setDraining b).port = s.port := rfl
@[simp] theorem State.setDraining_seq (b : Bool) : (s.setDraining b).seq = s.seq := rfl
@[simp] theorem State.setDraining_hst (b : Bool) : (s.setDraining b).hst = s.hst := rfl
@[simp] theorem State.setDraining_cmdPin (b : Bool) : (s.setDraining b).cmdPin = s.cmdPin := rfl
@[simp] theorem State.setDraining_cmdThr (b : Bool) : (s.setDraining b).cmdThr = s.cmdThr := rfl
@[simp] theorem State.setDraining_irqEn (b : Bool) : (s.setDraining b).irqEn = s.irqEn := rfl
@[simp] theorem State.setDraining_tickPending (b : Bool) : (s.setDraining b).tickPending = s.tickPending := rfl
@[simp] theorem State.setDraining_tcnt (b : Bool) : (s.setDraining b).tcnt = s.tcnt := rfl
@[simp] theorem State.setDraining_tcmp (b : Bool) : (s.setDraining b).tcmp = s.tcmp := rfl
@[simp] theorem State.setDraining_rsp (b : Bool) : (s.setDraining b).rsp = s.rsp := rfl
@[simp] theorem State.setDraining_rspValid (b : Bool) : (s.setDraining b).rspValid = s.rspValid := rfl
@[simp] theorem State.setDraining_cmd (b : Bool) : (s.setDraining b).cmd = s.cmd := rfl
@[simp] theorem State.setDraining_hold (b : Bool) : (s.setDraining b).hold = s.hold := rfl
@[simp] theorem State.setDraining_draining (b : Bool) : (s.setDraining b).draining = b := rfl
@[simp] theorem State.setDraining_sched (b : Bool) : (s.setDraining b).sched = s.sched := rfl

/-! `setSched` (log 1). -/

@[simp] theorem State.setSched_bitPlane (l : List Move) : (s.setSched l).bitPlane = s.bitPlane := rfl
@[simp] theorem State.setSched_attachedPins (l : List Move) : (s.setSched l).attachedPins = s.attachedPins := rfl
@[simp] theorem State.setSched_timerActive (l : List Move) : (s.setSched l).timerActive = s.timerActive := rfl
@[simp] theorem State.setSched_chan (l : List Move) : (s.setSched l).chan = s.chan := rfl
@[simp] theorem State.setSched_port (l : List Move) : (s.setSched l).port = s.port := rfl
@[simp] theorem State.setSched_seq (l : List Move) : (s.setSched l).seq = s.seq := rfl
@[simp] theorem State.setSched_hst (l : List Move) : (s.setSched l).hst = s.hst := rfl
@[simp] theorem State.setSched_cmdPin (l : List Move) : (s.setSched l).cmdPin = s.cmdPin := rfl
@[simp] theorem State.setSched_cmdThr (l : List Move) : (s.setSched l).cmdThr = s.cmdThr := rfl
@[simp] theorem State.setSched_irqEn (l : List Move) : (s.setSched l).irqEn = s.irqEn := rfl
@[simp] theorem State.setSched_tickPending (l : List Move) : (s.setSched l).tickPending = s.tickPending := rfl
@[simp] theorem State.setSched_tcnt (l : List Move) : (s.setSched l).tcnt = s.tcnt := rfl
@[simp] theorem State.setSched_tcmp (l : List Move) : (s.setSched l).tcmp = s.tcmp := rfl
@[simp] theorem State.setSched_rsp (l : List Move) : (s.setSched l).rsp = s.rsp := rfl
@[simp] theorem State.setSched_rspValid (l : List Move) : (s.setSched l).rspValid = s.rspValid := rfl
@[simp] theorem State.setSched_cmd (l : List Move) : (s.setSched l).cmd = s.cmd := rfl
@[simp] theorem State.setSched_hold (l : List Move) : (s.setSched l).hold = s.hold := rfl
@[simp] theorem State.setSched_draining (l : List Move) : (s.setSched l).draining = s.draining := rfl
@[simp] theorem State.setSched_sched (l : List Move) : (s.setSched l).sched = l := rfl

/-! The reads of the store, the channel file and `attached_pins` under the updates that leave them alone (R36). -/

@[simp] theorem memRead_setChannel (p : Pin) (t : Throttle) (f : Frame) (j : Pos) : (s.setChannel p t f).memRead j = s.memRead j := rfl
@[simp] theorem memRead_register (p : Pin) (j : Pos) : (s.register p).memRead j = s.memRead j := rfl
@[simp] theorem memRead_detachAll (j : Pos) : s.detachAll.memRead j = s.memRead j := rfl
@[simp] theorem memRead_writePort (v : Mask) (j : Pos) : (s.writePort v).memRead j = s.memRead j := rfl
@[simp] theorem memRead_setSeq (q : Seq) (j : Pos) : (s.setSeq q).memRead j = s.memRead j := rfl
@[simp] theorem memRead_setHst (h : Hst) (j : Pos) : (s.setHst h).memRead j = s.memRead j := rfl
@[simp] theorem memRead_latchPin (p : Pin) (j : Pos) : (s.latchPin p).memRead j = s.memRead j := rfl
@[simp] theorem memRead_latchThrottle (t : Throttle) (j : Pos) : (s.latchThrottle t).memRead j = s.memRead j := rfl
@[simp] theorem memRead_setCmd (c : Option CmdWord) (j : Pos) : (s.setCmd c).memRead j = s.memRead j := rfl
@[simp] theorem memRead_respond (f : Frame) (j : Pos) : (s.respond f).memRead j = s.memRead j := rfl
@[simp] theorem memRead_armTimer (j : Pos) : s.armTimer.memRead j = s.memRead j := rfl
@[simp] theorem memRead_raiseTick (j : Pos) : s.raiseTick.memRead j = s.memRead j := rfl
@[simp] theorem memRead_countCycle (j : Pos) : s.countCycle.memRead j = s.memRead j := rfl
@[simp] theorem memRead_takeInterrupt (j : Pos) : s.takeInterrupt.memRead j = s.memRead j := rfl
@[simp] theorem memRead_returnFromInterrupt (j : Pos) : s.returnFromInterrupt.memRead j = s.memRead j := rfl
@[simp] theorem memRead_setHold (n : Nat) (j : Pos) : (s.setHold n).memRead j = s.memRead j := rfl
@[simp] theorem memRead_setDraining (b : Bool) (j : Pos) : (s.setDraining b).memRead j = s.memRead j := rfl
@[simp] theorem memRead_setSched (l : List Move) (j : Pos) : (s.setSched l).memRead j = s.memRead j := rfl
@[simp] theorem packet_memWrite (i : Pos) (v : Mask) (r : Pin) : (s.memWrite i v).packet r = s.packet r := rfl
@[simp] theorem packet_fillStore (r : Pin) : s.fillStore.packet r = s.packet r := rfl
@[simp] theorem packet_clearColumn (p : Pin) (r : Pin) : (s.clearColumn p).packet r = s.packet r := rfl
@[simp] theorem packet_register (p : Pin) (r : Pin) : (s.register p).packet r = s.packet r := rfl
@[simp] theorem packet_detachAll (r : Pin) : s.detachAll.packet r = s.packet r := rfl
@[simp] theorem packet_writePort (v : Mask) (r : Pin) : (s.writePort v).packet r = s.packet r := rfl
@[simp] theorem packet_setSeq (q : Seq) (r : Pin) : (s.setSeq q).packet r = s.packet r := rfl
@[simp] theorem packet_setHst (h : Hst) (r : Pin) : (s.setHst h).packet r = s.packet r := rfl
@[simp] theorem packet_latchPin (p : Pin) (r : Pin) : (s.latchPin p).packet r = s.packet r := rfl
@[simp] theorem packet_latchThrottle (t : Throttle) (r : Pin) : (s.latchThrottle t).packet r = s.packet r := rfl
@[simp] theorem packet_setCmd (c : Option CmdWord) (r : Pin) : (s.setCmd c).packet r = s.packet r := rfl
@[simp] theorem packet_respond (f : Frame) (r : Pin) : (s.respond f).packet r = s.packet r := rfl
@[simp] theorem packet_armTimer (r : Pin) : s.armTimer.packet r = s.packet r := rfl
@[simp] theorem packet_raiseTick (r : Pin) : s.raiseTick.packet r = s.packet r := rfl
@[simp] theorem packet_countCycle (r : Pin) : s.countCycle.packet r = s.packet r := rfl
@[simp] theorem packet_takeInterrupt (r : Pin) : s.takeInterrupt.packet r = s.packet r := rfl
@[simp] theorem packet_returnFromInterrupt (r : Pin) : s.returnFromInterrupt.packet r = s.packet r := rfl
@[simp] theorem packet_setHold (n : Nat) (r : Pin) : (s.setHold n).packet r = s.packet r := rfl
@[simp] theorem packet_setDraining (b : Bool) (r : Pin) : (s.setDraining b).packet r = s.packet r := rfl
@[simp] theorem packet_setSched (l : List Move) (r : Pin) : (s.setSched l).packet r = s.packet r := rfl
@[simp] theorem attached_memWrite (i : Pos) (v : Mask) (r : Pin) : (s.memWrite i v).attached r = s.attached r := rfl
@[simp] theorem attached_fillStore (r : Pin) : s.fillStore.attached r = s.attached r := rfl
@[simp] theorem attached_clearColumn (p : Pin) (r : Pin) : (s.clearColumn p).attached r = s.attached r := rfl
@[simp] theorem attached_setChannel (p : Pin) (t : Throttle) (f : Frame) (r : Pin) : (s.setChannel p t f).attached r = s.attached r := rfl
@[simp] theorem attached_writePort (v : Mask) (r : Pin) : (s.writePort v).attached r = s.attached r := rfl
@[simp] theorem attached_setSeq (q : Seq) (r : Pin) : (s.setSeq q).attached r = s.attached r := rfl
@[simp] theorem attached_setHst (h : Hst) (r : Pin) : (s.setHst h).attached r = s.attached r := rfl
@[simp] theorem attached_latchPin (p : Pin) (r : Pin) : (s.latchPin p).attached r = s.attached r := rfl
@[simp] theorem attached_latchThrottle (t : Throttle) (r : Pin) : (s.latchThrottle t).attached r = s.attached r := rfl
@[simp] theorem attached_setCmd (c : Option CmdWord) (r : Pin) : (s.setCmd c).attached r = s.attached r := rfl
@[simp] theorem attached_respond (f : Frame) (r : Pin) : (s.respond f).attached r = s.attached r := rfl
@[simp] theorem attached_armTimer (r : Pin) : s.armTimer.attached r = s.attached r := rfl
@[simp] theorem attached_raiseTick (r : Pin) : s.raiseTick.attached r = s.attached r := rfl
@[simp] theorem attached_countCycle (r : Pin) : s.countCycle.attached r = s.attached r := rfl
@[simp] theorem attached_takeInterrupt (r : Pin) : s.takeInterrupt.attached r = s.attached r := rfl
@[simp] theorem attached_returnFromInterrupt (r : Pin) : s.returnFromInterrupt.attached r = s.attached r := rfl
@[simp] theorem attached_setHold (n : Nat) (r : Pin) : (s.setHold n).attached r = s.attached r := rfl
@[simp] theorem attached_setDraining (b : Bool) (r : Pin) : (s.setDraining b).attached r = s.attached r := rfl
@[simp] theorem attached_setSched (l : List Move) (r : Pin) : (s.setSched l).attached r = s.attached r := rfl

end

end Sys2Proof.Machine
end

