-- ==== Sys2Proof/Laws/Ops.lean ====
section
/-! SUPPORT. What the shared operations do, said once for each: the pin mask, the store, the channel file, the
sequencing combinators. Later proofs cite these and do not unfold the operations. -/

namespace Sys2Proof.Machine

/-! The pin mask and the frame bit (R6). -/

@[simp] theorem mask_getLsbD (p q : Pin) : (mask p).getLsbD q = decide (q = p) := by
  revert p q; decide

/-- The same, in the form simp gives a bit of known position. -/
@[simp] theorem mask_getElem (p q : Pin) : (mask p)[(q : Nat)] = decide (q = p) := by
  revert p q; decide

theorem and_not_mask_getLsbD (v : Mask) (p q : Pin) :
    (v &&& ~~~ mask p).getLsbD q = (v.getLsbD q && !decide (q = p)) := by
  have hq : (q : Nat) < 8 := q.isLt
  simp only [BitVec.getLsbD_and, BitVec.getLsbD_not, hq, decide_true, Bool.true_and, mask_getLsbD]

theorem or_mask_getLsbD (v : Mask) (p q : Pin) : (v ||| mask p).getLsbD q = (v.getLsbD q || decide (q = p)) := by
  simp only [BitVec.getLsbD_or, mask_getLsbD]

/-- Two masks are equal when they agree on every pin (R32). -/
theorem mask_ext {u v : Mask} (h : ∀ q : Pin, u.getLsbD q = v.getLsbD q) : u = v :=
  BitVec.eq_of_getLsbD_eq fun i hi => h ⟨i, hi⟩

@[simp] theorem bpFill_getLsbD (p : Pin) : Config.bpFill.getLsbD p = true := by
  revert p; decide

@[simp] theorem frameBit_zero (i : Pos) : frameBit 0 i = false := by simp [frameBit]

/-! The counters (R15, R16). -/

theorem nextPos_of_lt {i : Pos} (h : (i : Nat) < 15) : nextPos i = some ⟨i + 1, by omega⟩ := by
  simp [nextPos, h]

@[simp] theorem nextPos_last : nextPos 15 = none := rfl

theorem nextPos_some {i j : Pos} (h : nextPos i = some j) : (j : Nat) = i + 1 := by
  unfold nextPos at h
  split at h
  · cases h; rfl
  · cases h

theorem nextPos_none {i : Pos} (h : nextPos i = none) : i = 15 := by
  revert i; decide

/-! The store (R7, R34, R82, R83). -/

@[simp] theorem memRead_memWrite_same (s : State) (i : Pos) (v : Mask) : (s.memWrite i v).memRead i = v := by
  simp [State.memRead, State.memWrite]

theorem memRead_memWrite_other (s : State) {i j : Pos} (v : Mask) (h : i ≠ j) :
    (s.memWrite i v).memRead j = s.memRead j := by
  have : (i : Nat) ≠ j := fun e => h (Fin.ext e)
  simp [State.memRead, State.memWrite, this]

theorem memRead_memWrite (s : State) (i j : Pos) (v : Mask) :
    (s.memWrite i v).memRead j = if i = j then v else s.memRead j := by
  by_cases h : i = j
  · subst h; simp
  · simp [h, memRead_memWrite_other]

@[simp] theorem memRead_fillStore (s : State) (i : Pos) : s.fillStore.memRead i = Config.bpFill := by
  simp [State.memRead, State.fillStore]

@[simp] theorem memRead_clearColumn (s : State) (p : Pin) (i : Pos) :
    (s.clearColumn p).memRead i = s.memRead i &&& ~~~ mask p := by
  simp [State.memRead, State.clearColumn]

/-- A read of the store depends on the store alone (R36). -/
theorem memRead_congr {s t : State} (h : s.bitPlane = t.bitPlane) (i : Pos) : s.memRead i = t.memRead i := by
  simp [State.memRead, h]

/-- Two stores are equal when every entry reads the same: the store has one form (log 18). -/
theorem bitPlane_ext {s t : State} (h : ∀ i : Pos, s.memRead i = t.memRead i) : s.bitPlane = t.bitPlane := by
  apply Vector.ext
  intro i hi
  exact h ⟨i, hi⟩

/-! The channel file (R13). -/

@[simp] theorem chan_setChannel_same (s : State) (p : Pin) (t : Throttle) (f : Frame) :
    (s.setChannel p t f).chan[p] = some { throttle := t, packet := f } := by
  simp [State.setChannel]

theorem chan_setChannel_other (s : State) {p q : Pin} (t : Throttle) (f : Frame) (h : p ≠ q) :
    (s.setChannel p t f).chan[q] = s.chan[q] := by
  have : (p : Nat) ≠ q := fun e => h (Fin.ext e)
  simp [State.setChannel, this]

@[simp] theorem packet_setChannel_same (s : State) (p : Pin) (t : Throttle) (f : Frame) :
    (s.setChannel p t f).packet p = f := by
  unfold State.packet
  rw [chan_setChannel_same]

theorem packet_setChannel_other (s : State) {p q : Pin} (t : Throttle) (f : Frame) (h : p ≠ q) :
    (s.setChannel p t f).packet q = s.packet q := by
  unfold State.packet
  rw [chan_setChannel_other s t f h]

/-- A packet read depends on the channel file alone. -/
theorem packet_congr {s t : State} (h : s.chan = t.chan) (p : Pin) : s.packet p = t.packet p := by
  simp [State.packet, h]

theorem packet_of_slot {s : State} {p : Pin} {c : Channel} (h : s.chan[p] = some c) : s.packet p = c.packet := by
  simp only [State.packet, h]

/-! `attached_pins` (R11, R84). -/

@[simp] theorem attached_register (s : State) (p q : Pin) :
    (s.register p).attached q = (s.attached q || decide (q = p)) := by
  simp only [State.attached, State.register_attachedPins, or_mask_getLsbD]

@[simp] theorem attached_detachAll (s : State) (p : Pin) : s.detachAll.attached p = false := by
  simp [State.attached]

theorem attached_congr {s t : State} (h : s.attachedPins = t.attachedPins) (p : Pin) :
    s.attached p = t.attached p := by
  simp [State.attached, h]

/-! The response (R20, R152). -/

@[simp] theorem readRsp_respond (s : State) (f : Frame) (n : Nat) : (s.respond f).readRsp n = f := by
  simp [State.readRsp]

/-! The sequencing combinators (R37). -/

theorem whenEnabled_next {c : Bool} {name : String} {s' t : State} :
    whenEnabled c name s' = .next t ↔ c = true ∧ t = s' := by
  cases c <;> simp [whenEnabled, eq_comm]

@[simp] theorem whenEnabled_true (name : String) (s' : State) : whenEnabled true name s' = .next s' := rfl

@[simp] theorem whenEnabled_false (name : String) (s' : State) :
    whenEnabled false name s' = .refused (.notEnabled name) := rfl

@[simp] theorem andThen_next (s : State) (f : State → Host.Outcome State Fault Refusal) :
    andThen (.next s) f = f s := rfl

@[simp] theorem andThen_refused (r : Refusal) (f : State → Host.Outcome State Fault Refusal) :
    andThen (.refused r) f = .refused r := rfl

theorem andThen_eq_next {o : Host.Outcome State Fault Refusal} {f : State → Host.Outcome State Fault Refusal}
    {t : State} : andThen o f = .next t ↔ ∃ s, o = .next s ∧ f s = .next t := by
  cases o with
  | next s => simp
  | fault r => cases r
  | refused r => simp

@[simp] theorem forEach_nil {α : Type} (f : α → State → Host.Outcome State Fault Refusal) (s : State) :
    forEach f [] s = .next s := rfl

theorem forEach_cons {α : Type} (f : α → State → Host.Outcome State Fault Refusal) (a : α) (l : List α) (s : State) :
    forEach f (a :: l) s = andThen (f a s) (forEach f l) := rfl

/-- A property every step of a list keeps is kept by the list. -/
theorem forEach_keeps {α : Type} {f : α → State → Host.Outcome State Fault Refusal} {P : State → Prop}
    (h : ∀ a s t, P s → f a s = .next t → P t) :
    ∀ (l : List α) (s t : State), P s → forEach f l s = .next t → P t := by
  intro l
  induction l with
  | nil => intro s t hp ht; simp at ht; exact ht ▸ hp
  | cons a l ih =>
    intro s t hp ht
    rw [forEach_cons, andThen_eq_next] at ht
    obtain ⟨u, hu, ht⟩ := ht
    exact ih u t (h a s u hp hu) ht

/-! The conditions (R38, R50, R102). -/

@[simp] theorem hostAt_iff (s : State) (h : Hst) : s.hostAt h = true ↔ s.hst = h ∧ s.seq = .idle := by
  simp [State.hostAt]

@[simp] theorem cmdReady_iff (s : State) : s.cmdReady = true ↔ s.hst = .ready ∧ s.seq = .idle := by
  simp [State.cmdReady]

@[simp] theorem txAt_iff (s : State) (q : Seq) : s.txAt q = true ↔ s.seq = q := by
  simp [State.txAt]

@[simp] theorem tickTaken_iff (s : State) :
    s.tickTaken = true ↔ s.seq = .idle ∧ s.tickPending = true ∧ s.irqEn = true := by
  simp [State.tickTaken, and_assoc]

@[simp] theorem timerRuns_iff (s : State) : s.timerRuns = true ↔ s.timerActive = true := by
  simp [State.timerRuns]

@[simp] theorem matchDue_iff (s : State) : s.matchDue = true ↔ s.timerActive = true ∧ s.tcnt = s.tcmp := by
  simp [State.matchDue]

@[simp] theorem envMayMove_iff (s : State) : s.envMayMove = true ↔ s.seq = .idle := by
  simp [State.envMayMove]

end Sys2Proof.Machine
end

