-- ==== Sys2Proof/Laws/Clock.lean ====
section
/-! SUPPORT. What each part of a clock cycle can do, and what no clock cycle touches. -/

namespace Sys2Proof.Machine

/-- The three things the timer does in a cycle (R100). -/
theorem timerCycle_cases (s : State) :
    (s.timerActive = true ∧ s.tcnt = s.tcmp ∧ timerCycle s = s.raiseTick) ∨
      (s.timerActive = true ∧ s.tcnt ≠ s.tcmp ∧ timerCycle s = s.countCycle) ∨
      (s.timerActive = false ∧ timerCycle s = s) := by
  unfold timerCycle
  by_cases h : s.timerActive = true
  · by_cases hm : s.tcnt = s.tcmp
    · exact .inl ⟨h, hm, if_pos ((matchDue_iff s).2 ⟨h, hm⟩)⟩
    · refine .inr (.inl ⟨h, hm, ?_⟩)
      rw [if_neg (fun e => hm ((matchDue_iff s).1 e).2), if_pos h]
  · refine .inr (.inr ⟨by simpa using h, ?_⟩)
    rw [if_neg (fun e => h ((matchDue_iff s).1 e).1), if_neg h]

/-- The end of a transmission, or nothing (R108). -/
theorem endCycle_cases (s : State) :
    (s.draining = true ∧ s.hold = 0 ∧ endCycle s = (s.returnFromInterrupt).setDraining false) ∨
      ((s.draining = false ∨ s.hold ≠ 0) ∧ endCycle s = s) := by
  unfold endCycle
  by_cases h : (s.draining && s.hold == 0) = true
  · simp only [Bool.and_eq_true, beq_iff_eq] at h
    exact .inl ⟨h.1, h.2, by simp [h]⟩
  · refine .inr ⟨?_, if_neg h⟩
    simp only [Bool.and_eq_true, beq_iff_eq, not_and] at h
    by_cases hd : s.draining = true
    · exact .inr (h hd)
    · exact .inl (by simpa using hd)

/-- A tick taken, or nothing (R102). -/
theorem startCycle_cases (take : Bool) (s : State) :
    (take = true ∧ s.seq = .idle ∧ s.tickPending = true ∧ s.irqEn = true ∧
        startCycle take s = (s.takeInterrupt).setHold Config.timing.lIsr) ∨
      ((take = false ∨ s.tickTaken = false) ∧ startCycle take s = s) := by
  unfold startCycle
  by_cases h : (take && s.tickTaken) = true
  · rw [if_pos h]
    simp only [Bool.and_eq_true, tickTaken_iff] at h
    exact .inl ⟨h.1, h.2.1, h.2.2.1, h.2.2.2, rfl⟩
  · refine .inr ⟨?_, if_neg h⟩
    cases take with
    | false => exact .inl rfl
    | true => exact .inr (Bool.eq_false_iff.2 (fun e => h (by rw [e]; rfl)))

/-- While a hold runs no port write falls due (R108). -/
theorem portCycle_of_hold {s : State} (h : s.hold ≠ 0) : portCycle s = s := by
  simp [portCycle, h]

theorem portCycle_idle {s : State} (h : s.seq = .idle) : portCycle s = s := by
  simp [portCycle, h]

theorem portCycle_high {s : State} {i : Pos} (h0 : s.hold = 0) (h : s.seq = .high i) :
    portCycle s = (txHighEffect i s).setHold Config.timing.nH := by
  simp [portCycle, h0, h]

theorem portCycle_data {s : State} {i : Pos} (h0 : s.hold = 0) (h : s.seq = .data i) :
    portCycle s = (txDataEffect i s).setHold Config.timing.nD := by
  simp [portCycle, h0, h]

theorem portCycle_low {s : State} {i j : Pos} (h0 : s.hold = 0) (h : s.seq = .low i) (hj : nextPos i = some j) :
    portCycle s = ((txLowPort s).setSeq (.high j)).setHold Config.timing.nL := by
  simp [portCycle, h0, h, hj]

theorem portCycle_last {s : State} (h0 : s.hold = 0) (h : s.seq = .low 15) :
    portCycle s = ((txLowPort s).setDraining true).setHold Config.timing.nL := by
  simp [portCycle, h0, h]

/-- What no clock cycle touches: the store, the channel file, `attached_pins`, the host's command and the response
(R38 item 1, R106; log 26). -/
def State.SameHost (s t : State) : Prop :=
  t.bitPlane = s.bitPlane ∧ t.chan = s.chan ∧ t.attachedPins = s.attachedPins ∧ t.hst = s.hst ∧
    t.cmdPin = s.cmdPin ∧ t.cmdThr = s.cmdThr ∧ t.rsp = s.rsp ∧ t.rspValid = s.rspValid ∧
    t.timerActive = s.timerActive ∧ t.tcmp = s.tcmp ∧ t.cmd = s.cmd ∧ t.sched = s.sched

theorem State.SameHost.trans {a b c : State} (h : a.SameHost b) (k : b.SameHost c) : a.SameHost c := by
  obtain ⟨h1, h2, h3, h4, h5, h6, h7, h8, h9, h10, h11, h12⟩ := h
  obtain ⟨k1, k2, k3, k4, k5, k6, k7, k8, k9, k10, k11, k12⟩ := k
  exact ⟨k1.trans h1, k2.trans h2, k3.trans h3, k4.trans h4, k5.trans h5, k6.trans h6, k7.trans h7, k8.trans h8,
    k9.trans h9, k10.trans h10, k11.trans h11, k12.trans h12⟩

theorem timerCycle_sameHost (s : State) : s.SameHost (timerCycle s) := by
  obtain ⟨-, -, e⟩ | ⟨-, -, e⟩ | ⟨-, e⟩ := timerCycle_cases s <;>
    simp [e, State.SameHost, State.raiseTick, State.countCycle]

theorem endCycle_sameHost (s : State) : s.SameHost (endCycle s) := by
  obtain ⟨-, -, e⟩ | ⟨-, e⟩ := endCycle_cases s <;> simp [e, State.SameHost, State.returnFromInterrupt]

theorem startCycle_sameHost (take : Bool) (s : State) : s.SameHost (startCycle take s) := by
  obtain ⟨-, -, -, -, e⟩ | ⟨-, e⟩ := startCycle_cases take s <;> simp [e, State.SameHost, State.takeInterrupt]

theorem portCycle_sameHost (s : State) : s.SameHost (portCycle s) := by
  by_cases h0 : s.hold = 0
  · cases hs : s.seq with
    | idle => simp [portCycle_idle hs, State.SameHost]
    | high i => simp [portCycle_high h0 hs, State.SameHost, txHighEffect]
    | data i => simp [portCycle_data h0 hs, State.SameHost, txDataEffect]
    | low i =>
      cases hj : nextPos i with
      | some j => simp [portCycle_low h0 hs hj, State.SameHost, txLowPort]
      | none => simp [portCycle, h0, hs, hj, State.SameHost, txLowPort]
  · simp [portCycle_of_hold h0, State.SameHost]

/-- A clock cycle leaves the host's side of the block as it was. -/
theorem cycle_frame (take : Bool) (s : State) : s.SameHost (s.cycle take) := by
  refine .trans (b := (timerCycle s).setHold ((timerCycle s).hold - 1)) ?_
    (((endCycle_sameHost _).trans (startCycle_sameHost take _)).trans (portCycle_sameHost _))
  exact (timerCycle_sameHost s).trans (by simp [State.SameHost])

end Sys2Proof.Machine
end

