-- ==== Sys2Proof/Laws/Config.lean ====
section
/-! SUPPORT. The one fact about the OPEN timing parameters: they meet R5's constraints whatever was chosen. -/

namespace Sys2Proof.Config

theorem timing_ok : timing.ok = true := by
  unfold timing
  split
  · assumption
  · decide

/-- The tick period fits the 16-bit counter and is not empty (R5, R19). -/
theorem tickPeriod_bounds : 1 ≤ timing.tickPeriod ∧ timing.tickPeriod ≤ 65536 := by
  have h := timing_ok
  simp [Timing.ok] at h
  omega

/-- `TICK_PERIOD - 1` is held by the compare register without loss (R19). -/
theorem tcmp_toNat : (BitVec.ofNat 16 (timing.tickPeriod - 1)).toNat = timing.tickPeriod - 1 := by
  have h := tickPeriod_bounds
  simp only [BitVec.toNat_ofNat]
  omega

end Sys2Proof.Config
end

