-- ==== Sys2Proof/Laws/Meanings.lean ====
section
/-! SUPPORT. One inversion lemma for each meaning: if it answers a next state, the state it started in and the state
it left. Proofs about runs cite these and do not unfold the meanings. -/

namespace Sys2Proof.Machine

theorem issueAttach_next {p : Pin} {s t : State} (h : issueAttach p s = .next t) :
    s.attached p = false ∧ t = (s.latchPin p).setHst (if s.timerActive then .init else .setup) := by
  unfold issueAttach at h
  split at h
  · cases h
  · rename_i ha
    exact ⟨by simpa using ha, by simpa using h.symm⟩

theorem issueSetThrottle_next {p : Pin} {v : Throttle} {s t : State} (h : issueSetThrottle p v s = .next t) :
    s.attached p = true ∧ t = ((s.latchPin p).latchThrottle v).setHst .latch := by
  unfold issueSetThrottle at h
  split at h
  · rename_i ha
    exact ⟨ha, by simpa using h.symm⟩
  · cases h

theorem issueEncode_next {v : Throttle} {s t : State} (h : issueEncode v s = .next t) :
    t = ((s.latchPin 0).latchThrottle v).setHst .enc := by
  simpa [issueEncode] using h.symm

/-- What ISSUE can do (R80): one of its three cases, each with the state it leaves. -/
theorem issueWord_next {w : CmdWord} {s t : State} (h : issueWord w s = .next t) :
    s.hst = .ready ∧ s.seq = .idle ∧
      ((∃ p, decodeCmd w = .ok (.attach p) ∧ s.attached p = false ∧
          t = (s.latchPin p).setHst (if s.timerActive then .init else .setup)) ∨
        (∃ p v, decodeCmd w = .ok (.setThrottle p v) ∧ s.attached p = true ∧
          t = ((s.latchPin p).latchThrottle v).setHst .latch) ∨
        (∃ v, decodeCmd w = .ok (.encode v) ∧ t = ((s.latchPin 0).latchThrottle v).setHst .enc)) := by
  unfold issueWord at h
  split at h
  · rename_i hr
    obtain ⟨h1, h2⟩ := (cmdReady_iff s).1 hr
    refine ⟨h1, h2, ?_⟩
    split at h
    · rename_i p hd
      exact .inl ⟨p, hd, issueAttach_next h⟩
    · rename_i p v hd
      exact .inr (.inl ⟨p, v, hd, issueSetThrottle_next h⟩)
    · rename_i v hd
      exact .inr (.inr ⟨v, hd, issueEncode_next h⟩)
    · cases h
  · cases h

theorem execIssue_next {s t : State} (h : execIssue s = .next t) :
    ∃ w, s.cmd = some w ∧ issueWord w (s.setCmd none) = .next t := by
  unfold execIssue at h
  split at h
  · cases h
  · rename_i w hw
    exact ⟨w, hw, h⟩

theorem execAtSetup_next {s t : State} (h : execAtSetup s = .next t) :
    s.hst = .setup ∧ s.seq = .idle ∧ t = (s.fillStore.detachAll.armTimer).setHst .init := by
  obtain ⟨hc, ht⟩ := whenEnabled_next.1 h
  exact ⟨((hostAt_iff _ _).1 hc).1, ((hostAt_iff _ _).1 hc).2, ht⟩

theorem execAtInit_next {s t : State} (h : execAtInit s = .next t) :
    s.hst = .init ∧ s.seq = .idle ∧ t = ((s.setChannel s.cmdPin 0 0).clearColumn s.cmdPin).setHst .reg := by
  obtain ⟨hc, ht⟩ := whenEnabled_next.1 h
  exact ⟨((hostAt_iff _ _).1 hc).1, ((hostAt_iff _ _).1 hc).2, ht⟩

theorem execAtReg_next {s t : State} (h : execAtReg s = .next t) :
    s.hst = .reg ∧ s.seq = .idle ∧ t = (s.register s.cmdPin).setHst .ready := by
  obtain ⟨hc, ht⟩ := whenEnabled_next.1 h
  exact ⟨((hostAt_iff _ _).1 hc).1, ((hostAt_iff _ _).1 hc).2, ht⟩

theorem execStLatch_next {s t : State} (h : execStLatch s = .next t) :
    s.hst = .latch ∧ s.seq = .idle ∧
      t = (s.setChannel s.cmdPin s.cmdThr (encodeFrame s.cmdThr)).setHst (.upd 0) := by
  obtain ⟨hc, ht⟩ := whenEnabled_next.1 h
  exact ⟨((hostAt_iff _ _).1 hc).1, ((hostAt_iff _ _).1 hc).2, ht⟩

theorem execStUpd_next {i : Pos} {s t : State} (h : execStUpd i s = .next t) :
    s.hst = .upd i ∧ s.seq = .idle ∧ t = advanceUpd i (s.memWrite i (updatedEntry s i)) := by
  obtain ⟨hc, ht⟩ := whenEnabled_next.1 h
  exact ⟨((hostAt_iff _ _).1 hc).1, ((hostAt_iff _ _).1 hc).2, ht⟩

theorem execEncExec_next {s t : State} (h : execEncExec s = .next t) :
    s.hst = .enc ∧ s.seq = .idle ∧ t = (s.respond (encodeFrame s.cmdThr)).setHst .ready := by
  obtain ⟨hc, ht⟩ := whenEnabled_next.1 h
  exact ⟨((hostAt_iff _ _).1 hc).1, ((hostAt_iff _ _).1 hc).2, ht⟩

theorem execTxStart_next {s t : State} (h : execTxStart s = .next t) :
    s.seq = .idle ∧ s.tickPending = true ∧ s.irqEn = true ∧ t = s.takeInterrupt := by
  obtain ⟨hc, ht⟩ := whenEnabled_next.1 h
  obtain ⟨h1, h2, h3⟩ := (tickTaken_iff s).1 hc
  exact ⟨h1, h2, h3, ht⟩

theorem execTxHigh_next {i : Pos} {s t : State} (h : execTxHigh i s = .next t) :
    s.seq = .high i ∧ t = txHighEffect i s := by
  obtain ⟨hc, ht⟩ := whenEnabled_next.1 h
  exact ⟨(txAt_iff _ _).1 hc, ht⟩

theorem execTxData_next {i : Pos} {s t : State} (h : execTxData i s = .next t) :
    s.seq = .data i ∧ t = txDataEffect i s := by
  obtain ⟨hc, ht⟩ := whenEnabled_next.1 h
  exact ⟨(txAt_iff _ _).1 hc, ht⟩

theorem execTxLow_next {i : Pos} {s t : State} (h : execTxLow i s = .next t) :
    s.seq = .low i ∧ t = txLowAdvance i (txLowPort s) := by
  obtain ⟨hc, ht⟩ := whenEnabled_next.1 h
  exact ⟨(txAt_iff _ _).1 hc, ht⟩

theorem execTimerMatch_next {s t : State} (h : execTimerMatch s = .next t) :
    s.timerActive = true ∧ t = s.raiseTick := by
  obtain ⟨hc, ht⟩ := whenEnabled_next.1 h
  exact ⟨(timerRuns_iff s).1 hc, ht⟩

theorem execEnvPort_next {v : Mask} {s t : State} (h : execEnvPort v s = .next t) :
    s.seq = .idle ∧ t = s.writePort (envPortValue v s) := by
  obtain ⟨hc, ht⟩ := whenEnabled_next.1 h
  exact ⟨(envMayMove_iff s).1 hc, ht⟩

/-- Where ST_UPD(`i`) leaves the host sequencer (R87, R114). -/
theorem advanceUpd_cases (i : Pos) (s : State) :
    (∃ j, nextPos i = some j ∧ advanceUpd i s = s.setHst (.upd j)) ∨
      (i = 15 ∧ advanceUpd i s = (s.respond (s.packet s.cmdPin)).setHst .ready) := by
  unfold advanceUpd
  cases h : nextPos i with
  | some j => exact .inl ⟨j, rfl, rfl⟩
  | none => exact .inr ⟨nextPos_none h, rfl⟩

/-- Where TX_LOW(`i`) leaves the transmitter sequencer (R105, R114). -/
theorem txLowAdvance_cases (i : Pos) (s : State) :
    (∃ j, nextPos i = some j ∧ txLowAdvance i s = s.setSeq (.high j)) ∨
      (i = 15 ∧ txLowAdvance i s = s.returnFromInterrupt) := by
  unfold txLowAdvance
  cases h : nextPos i with
  | some j => exact .inl ⟨j, rfl, rfl⟩
  | none => exact .inr ⟨nextPos_none h, rfl⟩

/-- The entry ST_UPD(`i`) writes, bit by bit: bit `cmd_pin` is the frame bit, every other bit as before (R87). -/
theorem updatedEntry_getLsbD (s : State) (i : Pos) (q : Pin) :
    (updatedEntry s i).getLsbD q =
      if q = s.cmdPin then frameBit (s.packet s.cmdPin) i else (s.memRead i).getLsbD q := by
  unfold updatedEntry
  by_cases hb : frameBit (s.packet s.cmdPin) i = true
  · rw [if_pos hb, or_mask_getLsbD, hb]
    by_cases hq : q = s.cmdPin <;> simp [hq]
  · rw [if_neg hb, and_not_mask_getLsbD, Bool.eq_false_iff.2 hb]
    by_cases hq : q = s.cmdPin <;> simp [hq]

end Sys2Proof.Machine
end

