-- ==== Sys2Proof/Laws/PerInstr.lean ====
section
/-! SUPPORT. Statements about every step as syntax, one lemma for each constructor. -/

namespace Sys2Proof.Laws.EncodedWordIsWellFormed

/-- The word of a step is not reserved: it matches its row of the opcode table (R51, R55 to R57). -/
def Statement (i : Instr) : Prop := (encode i).wf = true

theorem attach (p : Pin) : Statement (.attach p) := by
  revert p
  unfold Statement
  decide

theorem setThrottle (p : Pin) (t : Throttle) : Statement (.setThrottle p t) := by
  have h : cmdWord 0b10 p t &&& 0xC000 = 0x8000 := by
    apply BitVec.eq_of_getLsbD_eq
    intro k hk
    simp only [cmdWord, BitVec.getLsbD_and, BitVec.getLsbD_append]
    interval_cases k <;> simp
  simp only [Statement, encode, FetchWord.wf, h]
  simp

theorem encode (t : Throttle) : Statement (.encode t) := by
  have h : cmdWord 0b11 0 t &&& 0xF800 = 0xC000 := by
    apply BitVec.eq_of_getLsbD_eq
    intro k hk
    simp only [cmdWord, BitVec.getLsbD_and, BitVec.getLsbD_append]
    interval_cases k <;> simp
  simp only [Statement, Sys2Proof.encode, FetchWord.wf, h]
  simp

theorem issue : Statement .issue := by unfold Statement; decide
theorem atSetup : Statement .atSetup := by unfold Statement; decide
theorem atInit : Statement .atInit := by unfold Statement; decide
theorem atReg : Statement .atReg := by unfold Statement; decide
theorem stLatch : Statement .stLatch := by unfold Statement; decide
theorem stUpd (i : Pos) : Statement (.stUpd i) := by revert i; unfold Statement; decide
theorem encExec : Statement .encExec := by unfold Statement; decide
theorem txStart : Statement .txStart := by unfold Statement; decide
theorem txHigh (i : Pos) : Statement (.txHigh i) := by revert i; unfold Statement; decide
theorem txData (i : Pos) : Statement (.txData i) := by revert i; unfold Statement; decide
theorem txLow (i : Pos) : Statement (.txLow i) := by revert i; unfold Statement; decide
theorem timerMatch : Statement .timerMatch := by unfold Statement; decide
theorem envPort (v : Mask) : Statement (.envPort v) := rfl

end Sys2Proof.Laws.EncodedWordIsWellFormed
end

