-- ==== Sys2Proof/Laws/Safety.lean ====
section
/-! SUPPORT. The bits of the store under the operations, and what the invariant of the block depends on. -/

namespace Sys2Proof.Machine

theorem storeBit_congr {s t : State} (h : ∀ i : Pos, t.memRead i = s.memRead i) (i : Pos) (p : Pin) :
    t.storeBit i p = s.storeBit i p := by
  simp only [State.storeBit, h]

@[simp] theorem storeBit_fillStore (s : State) (i : Pos) (p : Pin) : s.fillStore.storeBit i p = true := by
  have h := bpFill_getLsbD p
  simp only [State.storeBit, memRead_fillStore, h]

@[simp] theorem storeBit_clearColumn (s : State) (i : Pos) (p q : Pin) :
    (s.clearColumn p).storeBit i q = (s.storeBit i q && !decide (q = p)) := by
  simp only [State.storeBit, memRead_clearColumn, and_not_mask_getLsbD]

/-- ST_UPD(`i`) changes one bit of the store (R87). -/
theorem storeBit_update (s : State) (i j : Pos) (q : Pin) :
    (s.memWrite i (updatedEntry s i)).storeBit j q =
      if j = i ∧ q = s.cmdPin then frameBit (s.packet s.cmdPin) i else s.storeBit j q := by
  simp only [State.storeBit, memRead_memWrite]
  by_cases h : i = j
  · subst h
    rw [if_pos rfl, updatedEntry_getLsbD]
    simp
  · rw [if_neg h, if_neg (by rintro ⟨e, _⟩; exact h e.symm)]

/-- The invariant depends on these fields alone, and on `draining` only where it is set. -/
theorem inv_congr {s t : State} (h : s.Inv) (h1 : t.bitPlane = s.bitPlane) (h2 : t.attachedPins = s.attachedPins)
    (h3 : t.timerActive = s.timerActive) (h4 : t.chan = s.chan) (h5 : t.seq = s.seq) (h6 : t.hst = s.hst)
    (h7 : t.cmdPin = s.cmdPin) (h8 : t.irqEn = s.irqEn) (h9 : t.tickPending = s.tickPending)
    (h10 : t.tcnt = s.tcnt) (h11 : t.tcmp = s.tcmp) (h12 : t.draining = true → s.draining = true) : t.Inv := by
  have m : ∀ i, t.memRead i = s.memRead i := memRead_congr h1
  have a : ∀ i, t.attached i = s.attached i := attached_congr h2
  have p : ∀ i, t.packet i = s.packet i := packet_congr h4
  constructor
  · simpa only [State.UnattachedReadsOne, State.storeBit, m, a, h6, h7] using h.unattached
  · simpa only [State.AttachedReadsPacket, State.storeBit, m, a, p, h6, h7] using h.attachedPacket
  · simpa only [State.SlotsCreated, State.storeBit, m, a, h4, h6, h7] using h.slots
  · simpa only [State.CommandFits, a, h3, h6, h7] using h.command
  · simpa only [State.FlagsFit, State.inHandler, h2, h3, h5, h8, h9] using h.flags
  · simpa only [State.TimerFits, h3, h10, h11] using h.timer
  · intro hd
    rw [h5]
    exact h.drain (h12 hd)

/-- A transmission needs the timer (R112). -/
theorem timerActive_of_handler {s : State} (h : s.Inv) (hq : s.seq ≠ .idle) : s.timerActive = true := by
  by_contra hc
  exact hq (h.flags.1 (by simpa using hc)).2.2

end Sys2Proof.Machine
end

