-- ==== Sys2Proof/Laws/Step.lean ====
section
/-! SUPPORT. What one step can do: a clock cycle, or the meaning of the step its word decodes to. -/

namespace Sys2Proof.Machine

/-- What making a move answers a next state by. -/
theorem perform_next {m : Move} {s t : State} (h : s.perform m = .next t) :
    (s.fetch m = none ∧ t = s.cycle m.takesTick) ∨
      (∃ w i, s.fetch m = some w ∧ decode w = .ok i ∧ exec i s = .next t) := by
  unfold State.perform at h
  split at h
  · rename_i w hw
    unfold State.runWord at h
    split at h
    · rename_i i hi
      exact .inr ⟨w, i, hw, hi, h⟩
    · cases h
  · rename_i hw
    exact .inl ⟨hw, by simpa using h.symm⟩

/-- What one step can do. -/
theorem step_next {s t : State} (h : step s = .next t) :
    (s.sched = [] ∧ t = s.cycle true) ∨
      (∃ m rest, s.sched = m :: rest ∧ (s.accept m rest).fetch m = none ∧
        t = (s.accept m rest).cycle m.takesTick) ∨
      (∃ m rest w i, s.sched = m :: rest ∧ (s.accept m rest).fetch m = some w ∧ decode w = .ok i ∧
        exec i (s.accept m rest) = .next t) := by
  unfold step at h
  split at h
  · rename_i hl
    exact .inl ⟨hl, by simpa using h.symm⟩
  · rename_i m rest hl
    rcases perform_next h with ⟨hf, ht⟩ | ⟨w, i, hf, hd, hx⟩
    · exact .inr (.inl ⟨m, rest, hl, hf, ht⟩)
    · exact .inr (.inr ⟨m, rest, w, i, hl, hf, hd, hx⟩)

/-- What a move changes before it is made: the list, the command port and the holds, nothing else. -/
theorem accept_frame (s : State) (m : Move) (rest : List Move) :
    (s.accept m rest).bitPlane = s.bitPlane ∧ (s.accept m rest).attachedPins = s.attachedPins ∧
      (s.accept m rest).timerActive = s.timerActive ∧ (s.accept m rest).chan = s.chan ∧
      (s.accept m rest).port = s.port ∧ (s.accept m rest).seq = s.seq ∧ (s.accept m rest).hst = s.hst ∧
      (s.accept m rest).cmdPin = s.cmdPin ∧ (s.accept m rest).cmdThr = s.cmdThr ∧
      (s.accept m rest).irqEn = s.irqEn ∧ (s.accept m rest).tickPending = s.tickPending ∧
      (s.accept m rest).tcnt = s.tcnt ∧ (s.accept m rest).tcmp = s.tcmp ∧ (s.accept m rest).rsp = s.rsp ∧
      (s.accept m rest).rspValid = s.rspValid ∧ (s.accept m rest).sched = rest ∧
      ((s.accept m rest).draining = true → s.draining = true) := by
  cases m <;> simp [State.accept]

end Sys2Proof.Machine
end

