-- ==== Sys2Proof/Tests/Slice0.lean ====
section
/-! SUPPORT. Tests of the model against the spec's own words: the smoke of WellFormed, words written out from the
encoding tables, one step of each instruction on the vectors of spec/95_test_vectors.md, and for each statement with
hypotheses a state and operands that meet them. -/

namespace Sys2Proof.Tests

open Sys2Proof Sys2Proof.Machine

/-! ### WellFormed refuses (R53 to R57, R60; V23, V31) -/

theorem test_wf_refuses_op_zero : (FetchWord.cmd16 0x3FFF).wf = false := by decide
theorem test_wf_refuses_attach_throttle : (FetchWord.cmd16 0x5416).wf = false := by decide
theorem test_wf_refuses_encode_pin : (FetchWord.cmd16 0xC800).wf = false := by decide
theorem test_wf_refuses_hst_stage : (FetchWord.hst7 0x70).wf = false := by decide
theorem test_wf_refuses_hst_idx : (FetchWord.hst7 0x41).wf = false := by decide
theorem test_wf_refuses_seq_slot : (FetchWord.seq6 0x01).wf = false := by decide
theorem test_wf_refuses_no_match : (FetchWord.evt1 0).wf = false := by decide
theorem test_wf_refuses_attach_8 : (Line.attach 8).wf = false := by decide
theorem test_wf_refuses_throttle_pin_8 : (Line.setThrottle 8 0).wf = false := by decide
theorem test_wf_refuses_throttle_2048 : (Line.setThrottle 0 2048).wf = false := by decide
theorem test_wf_refuses_encode_2048 : (Line.encode 2048).wf = false := by decide
theorem test_wf_refuses_issue_65536 : (Line.issue 65536).wf = false := by decide
theorem test_wf_refuses_positions_16 : ((Line.stUpd 16).wf || (Line.txHigh 16).wf || (Line.txData 16).wf ||
    (Line.txLow 16).wf || (Line.envPort 256).wf) = false := by decide
theorem test_wf_admits_bounds : (Line.setThrottle 7 2047).wf && (Line.stUpd 15).wf && (Line.envPort 255).wf := by
  decide

theorem test_reject_op_zero : decode (.cmd16 0b0000000000000001) = .error .opZero := by decide
theorem test_reject_attach_throttle : decode (.cmd16 0b0111111111111111) = .error .attachThrottle := by decide
theorem test_reject_encode_pin : decode (.cmd16 0b1101000000000000) = .error .encodePin := by decide
theorem test_reject_hst_stage : decode (.hst7 0b1110000) = .error .hstStage := by decide
theorem test_reject_hst_idx : decode (.hst7 0b0010001) = .error .hstIdx := by decide
theorem test_reject_seq_slot : decode (.seq6 0b001111) = .error .seqSlot := by decide
theorem test_reject_no_match : decode (.evt1 0) = .error .noMatch := by decide

/-! ### Words written out from R51, R55, R56, R57 (V30) -/

theorem test_decode_attach : decode (.cmd16 0b0111000000000000) = .ok (.attach 6) := by decide
theorem test_decode_setThrottle : decode (.cmd16 0b1000110000010110) = .ok (.setThrottle 1 1046) := by decide
theorem test_decode_setThrottle_top : decode (.cmd16 0b1011111111111111) = .ok (.setThrottle 7 2047) := by decide
theorem test_decode_encode : decode (.cmd16 0b1100010000010110) = .ok (.encode 1046) := by decide
theorem test_decode_issue : decode (.hst7 0b0000000) = .ok .issue := by decide
theorem test_decode_atSetup : decode (.hst7 0b0010000) = .ok .atSetup := by decide
theorem test_decode_atInit : decode (.hst7 0b0100000) = .ok .atInit := by decide
theorem test_decode_atReg : decode (.hst7 0b0110000) = .ok .atReg := by decide
theorem test_decode_stLatch : decode (.hst7 0b1000000) = .ok .stLatch := by decide
theorem test_decode_stUpd : decode (.hst7 0b1010110) = .ok (.stUpd 6) := by decide
theorem test_decode_encExec : decode (.hst7 0b1100000) = .ok .encExec := by decide
theorem test_decode_txStart : decode (.seq6 0b000000) = .ok .txStart := by decide
theorem test_decode_txHigh : decode (.seq6 0b011010) = .ok (.txHigh 10) := by decide
theorem test_decode_txData : decode (.seq6 0b100001) = .ok (.txData 1) := by decide
theorem test_decode_txLow : decode (.seq6 0b111111) = .ok (.txLow 15) := by decide
theorem test_decode_timerMatch : decode (.evt1 0b1) = .ok .timerMatch := by decide
theorem test_decode_envPort : decode (.env8 0b10100101) = .ok (.envPort 0xA5) := by decide

/-- The same rows by the table's numbering (spec/opcode_table.json). -/
theorem test_decodeTableWord : decodeTableWord 16 0x9BE8 = some (.setThrottle 3 1000) ∧
    decodeTableWord 16 0xFFFF = none ∧ decodeTableWord 7 0x5F = some (.stUpd 15) ∧
    decodeTableWord 6 0x10 = some (.txHigh 0) ∧ decodeTableWord 1 1 = some .timerMatch ∧
    decodeTableWord 8 0xA5 = some (.envPort 0xA5) := by decide

/-! ### States the tests start from -/

/-- The state after reset, with a value chosen here for each register the spec leaves unspecified (R25). -/
def plain : State :=
  { State.reset with port := 0x81, cmdPin := 3, cmdThr := 0, irqEn := false, tcmp := 0, rsp := 0 }

/-- The Armed state after ATTACH 2: pin 2 attached at throttle 0 (program P1 after its first command). -/
def armed : State :=
  { plain with
    timerActive := true, irqEn := true, attachedPins := 0x04, bitPlane := Vector.replicate 16 0xFB,
    chan := (Vector.replicate 8 none).set 2 (some { throttle := 0, packet := 0 }),
    tcmp := BitVec.ofNat 16 (Config.timing.tickPeriod - 1) }

/-- A tick is pending. -/
def ticking : State := { armed with tickPending := true }

/-- The transmitter stands before TX_DATA(4). -/
def sending : State := { armed with seq := .data 4, irqEn := false, port := 0x85 }

/-- The host stands before AT_SETUP of its first ATTACH. -/
def settingUp : State := { plain with hst := .setup }

/-- The host stands before AT_REG of ATTACH 5. -/
def registering : State :=
  { armed with
    hst := .reg, cmdPin := 5, bitPlane := Vector.replicate 16 0xDB,
    chan := armed.chan.set 5 (some { throttle := 0, packet := 0 }) }

/-- The host stands before ST_UPD(`i`) of SET_THROTTLE 2, 1046, no entry written yet. -/
def updating (i : Pos) : State :=
  { armed with
    hst := .upd i, cmdPin := 2, cmdThr := 1046,
    chan := armed.chan.set 2 (some { throttle := 1046, packet := 0x82C6 }) }

/-- One field of the next state an outcome answers. -/
def nextField {α : Type} (f : State → α) : Host.Outcome State Fault Refusal → Option α
  | .next s => some (f s)
  | .fault _ => none
  | .refused _ => none

/-- The refusal an outcome answers. -/
def refusal : Host.Outcome State Fault Refusal → Option Refusal
  | .next _ => none
  | .fault _ => none
  | .refused r => some r

/-! ### One step of each instruction -/

/-- V35 first row and V42: after ATTACH 2 from reset only pin 2 is attached and the timer runs. -/
theorem test_attach : nextField (fun s => (s.attachedPins, s.timerActive, s.memRead 7)) (exec (.attach 2) plain) =
    some (0x04, true, 0xFB) := by decide
/-- V35: attach of an attached pin (U2). -/
theorem test_attach_refused : refusal (exec (.attach 2) armed) = some .attachOfAttachedPin := by decide
/-- V46: the store after SET_THROTTLE 2, 1046. -/
theorem test_setThrottle : nextField (fun s => s.bitPlane.toList) (exec (.setThrottle 2 1046) armed) =
    some [0xFF, 0xFB, 0xFB, 0xFB, 0xFB, 0xFB, 0xFF, 0xFB, 0xFF, 0xFF, 0xFB, 0xFB, 0xFB, 0xFF, 0xFF, 0xFB] := by
  decide
/-- V35: set throttle before attach (U3). -/
theorem test_setThrottle_refused : refusal (exec (.setThrottle 1 1046) armed) = some .setThrottleBeforeAttach := by
  decide
/-- V48. -/
theorem test_encode : nextField (fun s => (s.rsp, s.rspValid, s.timerActive)) (exec (.encode 2047) plain) =
    some (0xFFEE, true, false) := by decide
/-- V35: `ta = 1`, `att = 02`, word 8C16. -/
theorem test_issue : nextField (fun s => (s.cmdPin, s.cmdThr, s.rspValid, s.hst))
    (exec .issue { armed with attachedPins := 0x02, rspValid := true, cmd := some 0x8C16 }) =
    some (1, 1046, false, .latch) := by decide
/-- V35: `seq = (DATA, 7)`. -/
theorem test_issue_not_enabled : refusal (exec .issue { armed with seq := .data 7, cmd := some 0xC7FF }) =
    some (.notEnabled "ISSUE") := by decide
/-- V40. -/
theorem test_atSetup : nextField (fun s => (s.attachedPins, s.timerActive, s.tickPending, s.irqEn, s.tcnt, s.hst))
    (exec .atSetup { settingUp with tcnt := 7 }) = some (0x00, true, false, true, 0, .init) := by decide
/-- V41, the third row. -/
theorem test_atInit : nextField (fun s => (s.memRead 15, s.chan[0]?, s.attachedPins))
    (exec .atInit { armed with hst := .init, cmdPin := 0 }) = some (0xFA, some (some ⟨0, 0⟩), 0x04) := by decide
/-- V42, the second row. -/
theorem test_atReg : nextField (fun s => (s.attachedPins, s.hst)) (exec .atReg registering) =
    some (0x24, .ready) := by decide
/-- V45. -/
theorem test_stLatch : nextField (fun s => (s.chan[2]?, s.hst, s.memRead 0))
    (exec .stLatch { armed with hst := .latch, cmdPin := 2, cmdThr := 1046 }) =
    some (some (some ⟨1046, 0x82C6⟩), .upd 0, 0xFB) := by decide
/-- V46, position 0. -/
theorem test_stUpd : nextField (fun s => (s.memRead 0, s.hst, s.rspValid)) (exec (.stUpd 0) (updating 0)) =
    some (0xFF, .upd 1, false) := by decide
/-- V46, position 15. -/
theorem test_stUpd_last : nextField (fun s => (s.memRead 15, s.hst, s.rsp, s.rspValid))
    (exec (.stUpd 15) (updating 15)) = some (0xFB, .ready, 0x82C6, true) := by decide
/-- V48: `ENCODE 0` is a valid zero. -/
theorem test_encExec : nextField (fun s => (s.rsp, s.rspValid, s.hst))
    (exec .encExec { plain with hst := .enc, rsp := 0xFFEE }) = some (0x0000, true, .ready) := by decide
/-- V50: TX_START with `hst = (S_UPD, 7)`. -/
theorem test_txStart : nextField (fun s => (s.tickPending, s.irqEn, s.seq, s.hst))
    (exec .txStart { updating 7 with tickPending := true }) = some (false, false, .high 0, .upd 7) := by decide
/-- V50: TX_START without a pending tick. -/
theorem test_txStart_not_enabled : refusal (exec .txStart armed) = some (.notEnabled "TX_START") := by decide
/-- V55. -/
theorem test_txHigh : nextField (fun s => (s.port, s.seq))
    (exec (.txHigh 4) { armed with seq := .high 4, attachedPins := 0x24 }) = some (0xA5, .data 4) := by decide
/-- V55. -/
theorem test_txData : nextField (fun s => (s.port, s.seq))
    (exec (.txData 4) { sending with port := 0xA5, bitPlane := Vector.replicate 16 0xDB }) =
    some (0x81, .low 4) := by decide
/-- V55: TX_LOW(4). -/
theorem test_txLow : nextField (fun s => (s.port, s.seq, s.irqEn))
    (exec (.txLow 4) { sending with seq := .low 4, attachedPins := 0x24 }) = some (0x81, .high 5, false) := by decide
/-- V55: TX_LOW(15) with `att = FF`. -/
theorem test_txLow_last : nextField (fun s => (s.port, s.seq, s.irqEn))
    (exec (.txLow 15) { sending with seq := .low 15, attachedPins := 0xFF, port := 0xFF }) =
    some (0x00, .idle, true) := by decide
/-- V50: a match during a transmission. -/
theorem test_timerMatch : nextField (fun s => (s.tickPending, s.tcnt, s.seq))
    (exec .timerMatch { sending with tcnt := 9 }) = some (true, 0, .data 4) := by decide
/-- V50: `ta = 0`. -/
theorem test_timerMatch_not_enabled : refusal (exec .timerMatch plain) = some (.notEnabled "TIMER_MATCH") := by decide
/-- V56, the first line. -/
theorem test_envPort : nextField State.port (exec (.envPort 0x7E) { armed with attachedPins := 0x24 }) =
    some 0x5A := by decide
/-- V56: `seq = (HIGH, 3)`. -/
theorem test_envPort_not_enabled : refusal (exec (.envPort 0x7E) { armed with seq := .high 3 }) =
    some (.notEnabled "ENV_PORT") := by decide

/-- V20: frames of the vector table. -/
theorem test_encodeFrame : [1, 8, 15, 47, 255, 272, 1000, 1365, 2046].map encodeFrame =
    [0x0022, 0x0101, 0x01EF, 0x05EB, 0x1FE0, 0x2200, 0x7D0A, 0xAAAA, 0xFFCC] := by decide

/-! ### The hypotheses of the statements are met -/

/-- The invariant holds of a state whose timer is off, or is programmed and has not passed its compare value. -/
theorem timerFits_of {s : State}
    (h : s.timerActive = false ∨ (s.tcmp = BitVec.ofNat 16 (Config.timing.tickPeriod - 1) ∧ s.tcnt = 0)) :
    s.TimerFits := by
  intro ht
  rcases h with h | ⟨h1, h2⟩
  · rw [h] at ht; cases ht
  · rw [h1, h2]
    exact ⟨Config.tcmp_toNat, Nat.zero_le _⟩

theorem witness_inv_armed : armed.Inv where
  unattached := by unfold State.UnattachedReadsOne; decide
  attachedPacket := by unfold State.AttachedReadsPacket; decide
  slots := by unfold State.SlotsCreated; decide
  command := by unfold State.CommandFits; decide
  flags := by unfold State.FlagsFit; decide
  timer := timerFits_of (.inr ⟨rfl, rfl⟩)
  drain := by unfold State.DrainFits; decide

theorem witness_inv_sending : sending.Inv where
  unattached := by unfold State.UnattachedReadsOne; decide
  attachedPacket := by unfold State.AttachedReadsPacket; decide
  slots := by unfold State.SlotsCreated; decide
  command := by unfold State.CommandFits; decide
  flags := by unfold State.FlagsFit; decide
  timer := timerFits_of (.inr ⟨rfl, rfl⟩)
  drain := by unfold State.DrainFits; decide

theorem witness_inv_settingUp : settingUp.Inv where
  unattached := by unfold State.UnattachedReadsOne; decide
  attachedPacket := by unfold State.AttachedReadsPacket; decide
  slots := by unfold State.SlotsCreated; decide
  command := by unfold State.CommandFits; decide
  flags := by unfold State.FlagsFit; decide
  timer := timerFits_of (.inl rfl)
  drain := by unfold State.DrainFits; decide

theorem witness_inv_registering : { registering with tickPending := true }.Inv where
  unattached := by unfold State.UnattachedReadsOne; decide
  attachedPacket := by unfold State.AttachedReadsPacket; decide
  slots := by unfold State.SlotsCreated; decide
  command := by unfold State.CommandFits; decide
  flags := by unfold State.FlagsFit; decide
  timer := timerFits_of (.inr ⟨rfl, rfl⟩)
  drain := by unfold State.DrainFits; decide

theorem witness_inv_updating : { updating 0 with tickPending := true }.Inv where
  unattached := by unfold State.UnattachedReadsOne; decide
  attachedPacket := by unfold State.AttachedReadsPacket; decide
  slots := by unfold State.SlotsCreated; decide
  command := by unfold State.CommandFits; decide
  flags := by unfold State.FlagsFit; decide
  timer := timerFits_of (.inr ⟨rfl, rfl⟩)
  drain := by unfold State.DrainFits; decide

theorem witness_EncodeOfDecode : decode (.cmd16 0x9416) = .ok (.setThrottle 2 1046) ∧
    decode (.hst7 0x5F) = .ok (.stUpd 15) ∧ decode (.seq6 0x10) = .ok (.txHigh 0) ∧
    decode (.evt1 1) = .ok .timerMatch ∧ decode (.env8 0xFF) = .ok (.envPort 0xFF) := by decide

/-- Both ends of the three kinds of reserved word. -/
theorem witness_ReservedCommandWordsAreRefused :
    (plain.hst = .ready ∧ plain.seq = .idle ∧ { plain with cmd := some 0x0000 }.cmd = some 0x0000) ∧
    (decodeCmd 0x0000 = .error .opZero ∧ decodeCmd 0x3FFF = .error .opZero) ∧
    (decodeCmd 0x4001 = .error .attachThrottle ∧ decodeCmd 0x7FFF = .error .attachThrottle) ∧
    (decodeCmd 0xC800 = .error .encodePin ∧ decodeCmd 0xFFFF = .error .encodePin) := by decide

/-- Both sides of each operand's range. -/
theorem witness_OutOfRangeOperandsDoNotAssemble :
    (runLine (.attach 7) plain).isSome = true ∧ (runLine (.attach 8) plain).isSome = false ∧
    (runLine (.setThrottle 7 2047) armed).isSome = true ∧ (runLine (.setThrottle 7 2048) armed).isSome = false ∧
    (runLine (.encode 2047) plain).isSome = true ∧ (runLine (.encode 2048) plain).isSome = false := by decide

theorem witness_StepRunsTheDecodedStep :
    { updating 15 with sched := [.host, .timer] }.sched = .host :: [.timer] ∧
    (({ updating 15 with sched := [.host, .timer] }).accept .host [.timer]).fetch .host = some (.hst7 0x5F) ∧
    decode (.hst7 0x5F) = .ok (.stUpd 15) := by decide

theorem witness_StepWithoutAWordIsACycle :
    armed.sched = [] ∧ { armed with sched := [.clock false] }.sched = .clock false :: [] := by decide

/-- A word of each width. -/
theorem witness_PlacedWordRunsNext :
    decodeTableWord 16 0x9416 = some (.setThrottle 2 1046) ∧ decodeTableWord 8 0x00 = some .issue ∧
    decodeTableWord 7 0x50 = some (.stUpd 0) ∧ decodeTableWord 6 0x00 = some .txStart ∧
    decodeTableWord 1 1 = some .timerMatch ∧ decodeTableWord 8 0xFF = some (.envPort 0xFF) := by decide

/-- The two ends of `idx` and of `slot`. -/
theorem witness_SequencersAreTheirWords :
    Hst.ofBits 0x50 = some (.upd 0) ∧ Hst.ofBits 0x5F = some (.upd 15) ∧ Hst.ofBits 0x60 = some .enc ∧
    Seq.ofBits 0x10 = some (.high 0) ∧ Seq.ofBits 0x3F = some (.low 15) := by decide

/-- Each kind of word, attached and not attached, timer on and off. -/
theorem witness_IssueDispatches :
    (plain.hst = .ready ∧ plain.seq = .idle ∧ { plain with cmd := some 0x5000 }.cmd = some (cmdWord 0b01 2 0) ∧
      plain.attached 2 = false ∧ plain.timerActive = false) ∧
    (armed.hst = .ready ∧ armed.seq = .idle ∧ { armed with cmd := some 0x5000 }.cmd = some (cmdWord 0b01 2 0) ∧
      armed.attached 2 = true) ∧
    ({ armed with cmd := some 0x97FF }.cmd = some (cmdWord 0b10 2 2047) ∧ armed.attached 2 = true) ∧
    ({ armed with cmd := some 0x8C16 }.cmd = some (cmdWord 0b10 1 1046) ∧ armed.attached 1 = false) ∧
    ({ plain with cmd := some 0xC7FF }.cmd = some (cmdWord 0b11 0 2047)) ∧
    (updating 3).hst ≠ .ready ∧ sending.seq ≠ .idle ∧ plain.cmd = none := by decide

/-- The word `0000` is none of the three commands. -/
theorem witness_IssueDispatches_reserved : (∀ p t, (0x0000 : CmdWord) ≠ cmdWord 0b10 p t) ∧
    (∀ p, (0x0000 : CmdWord) ≠ cmdWord 0b01 p 0) ∧ (∀ t, (0x0000 : CmdWord) ≠ cmdWord 0b11 0 t) := by
  refine ⟨fun p t h => ?_, by decide, fun t h => ?_⟩ <;>
  · have e := congrArg (fun w : CmdWord => w.getLsbD 15) h
    simp only [cmdWord, BitVec.getLsbD_append] at e
    simp only [show ¬(15 < 11) by decide, show (15 - 11 < 3) = False by decide, if_false] at e
    revert e
    decide

theorem witness_AtSetupArms : settingUp.hst = .setup ∧ settingUp.seq = .idle := by decide
theorem witness_AtInitClearsTheColumn :
    { armed with hst := .init, cmdPin := 7 }.hst = .init ∧ armed.seq = .idle := by decide
theorem witness_AtRegRegisters : registering.hst = .reg ∧ registering.seq = .idle := by decide
theorem witness_StLatchStoresTheFrame :
    { armed with hst := .latch, cmdPin := 2 }.hst = .latch ∧ armed.seq = .idle := by decide
/-- Positions 0, 14 and 15. -/
theorem witness_StUpdWritesOneBit : (updating 0).hst = .upd 0 ∧ (updating 14).hst = .upd 14 ∧
    (updating 15).hst = .upd 15 ∧ (updating 0).seq = .idle ∧ (updating 14).seq = .idle ∧
    (updating 15).seq = .idle := by decide
theorem witness_EncExecAnswers : { plain with hst := .enc }.hst = .enc ∧ plain.seq = .idle := by decide

/-- Each step's condition fails in one of these. -/
theorem witness_NotEnabledIsRefused : sending.seq ≠ .idle ∧ (updating 3).hst ≠ .ready ∧ plain.cmd = none ∧
    armed.hst ≠ .upd 0 ∧ armed.hst ≠ .setup ∧ armed.tickPending = false ∧ plain.irqEn = false ∧
    sending.seq ≠ .data 5 ∧ plain.timerActive = false := by decide

theorem witness_AttachWhenArmed :
    armed.hst = .ready ∧ armed.seq = .idle ∧ armed.attached 7 = false ∧ armed.timerActive = true := by decide
theorem witness_FirstAttachArmsAndRegisters :
    plain.hst = .ready ∧ plain.seq = .idle ∧ plain.attached 0 = false ∧ plain.timerActive = false := by decide
theorem witness_SetThrottleNetEffect : armed.hst = .ready ∧ armed.seq = .idle ∧ armed.attached 2 = true := by decide
theorem witness_EncodeNetEffect : plain.hst = .ready ∧ plain.seq = .idle := by decide
theorem witness_CommandsRefused : (armed.hst = .ready ∧ armed.seq = .idle ∧ armed.attached 2 = true) ∧
    (armed.attached 1 = false) ∧ (updating 3).hst ≠ .ready ∧ sending.seq ≠ .idle := by decide
/-- Timer on and off; and a state with a word already on the port. -/
theorem witness_CommandIsItsMicroSteps : (armed.cmd = none ∧ armed.hst = .ready ∧ armed.seq = .idle) ∧
    ({ armed with cmd := some 0x0000 }.cmd = some 0x0000) ∧
    (armed.attached 5 = false ∧ armed.timerActive = true ∧ armed.attached 2 = true) ∧
    (plain.cmd = none ∧ plain.hst = .ready ∧ plain.seq = .idle ∧ plain.attached 5 = false ∧
      plain.timerActive = false) := by decide
theorem witness_AttachThenSetThrottleSpellsTheFrame :
    plain.hst = .ready ∧ plain.seq = .idle ∧ plain.attached 2 = false := by decide
theorem witness_SetupRunsOnce : settingUp.Inv ∧ ∃ t, exec .atSetup settingUp = .next t ∧ Reach t t :=
  ⟨witness_inv_settingUp, _, rfl, .refl _⟩
theorem witness_PinIsolation : armed.Inv ∧ armed.timerActive = true ∧
    (∃ t, exec (.setThrottle 2 1046) armed = .next t) ∧ actingPin (.setThrottle 2 1046) armed ≠ some 5 :=
  ⟨witness_inv_armed, rfl, ⟨_, rfl⟩, by decide⟩

theorem witness_TimerMatchRaisesTheTick : sending.timerActive = true ∧ plain.timerActive = false := by decide
theorem witness_TxStartTakesTheInterrupt :
    (ticking.seq = .idle ∧ ticking.tickPending = true ∧ ticking.irqEn = true) ∧
    ¬(armed.seq = .idle ∧ armed.tickPending = true ∧ armed.irqEn = true) := by decide
theorem witness_TxHighRaisesAttachedPins :
    { sending with seq := .high 15 }.seq = .high 15 ∧ sending.seq ≠ .high 15 := by decide
theorem witness_TxDataSelectsTheEntry : sending.seq = .data 4 ∧ sending.seq ≠ .data 5 := by decide
/-- Slots 0, 14 and 15. -/
theorem witness_TxLowEndsThePulse : { sending with seq := .low 0 }.seq = .low 0 ∧
    { sending with seq := .low 14 }.seq = .low 14 ∧ { sending with seq := .low 15 }.seq = .low 15 ∧
    sending.seq ≠ .low 15 := by decide
theorem witness_EnvPortKeepsAttachedBits : armed.seq = .idle ∧ sending.seq ≠ .idle := by decide
theorem witness_TransmissionIsNotDisturbed : sending.seq ≠ .idle ∧ ∃ t, exec (.txData 4) sending = .next t :=
  ⟨by decide, _, rfl⟩
theorem witness_TransmissionNetEffect : (ticking.seq = .idle ∧ ticking.tickPending = true ∧ ticking.irqEn = true) ∧
    ticking.attached 2 = true ∧ ticking.attached 0 = false := by decide
/-- Pin 5 stands between AT_INIT and AT_REG, pin 7 is not attached at all. -/
theorem witness_UnattachedPortBitsKept : { registering with tickPending := true }.Inv ∧
    (∃ t, execAll transmitSteps { registering with tickPending := true } = .next t) ∧
    registering.attached 5 = false ∧ registering.attached 7 = false :=
  ⟨witness_inv_registering, ⟨_, rfl⟩, by decide, by decide⟩
/-- Pin 2 attached, once with no update under way and once with one. -/
theorem witness_WordOnPinIsThePacket : { registering with tickPending := true }.Inv ∧
    { updating 0 with tickPending := true }.Inv ∧
    (registering.seq = .idle ∧ registering.irqEn = true ∧ registering.attached 2 = true) ∧
    ((updating 0).seq = .idle ∧ (updating 0).irqEn = true ∧ (updating 0).attached 2 = true) ∧
    ¬(∃ k, registering.hst = .upd k ∧ registering.cmdPin = 2) :=
  ⟨witness_inv_registering, witness_inv_updating, by decide, by decide, by decide⟩
theorem witness_TornFrame : { ticking with cmd := some 0x93E8 }.cmd = some (cmdWord 0b10 2 1000) ∧
    ticking.hst = .ready ∧ ticking.seq = .idle ∧ ticking.tickPending = true ∧ ticking.irqEn = true ∧
    ticking.attached 2 = true ∧ (0 : Nat) ≤ 16 ∧ (16 : Nat) ≤ 16 := by decide

/-- The states differ in a lane that is neither lane 2 (attached) nor lane 0 (not attached). -/
theorem witness_LanesAreIndependent :
    (∃ t u, exec (.txData 4) sending = .next t ∧ exec (.txData 4) { sending with port := 0xC5 } = .next u) ∧
    (∃ t, exec (.txHigh 0) { sending with seq := .high 0 } = .next t) ∧
    (∃ t, exec (.txLow 15) { sending with seq := .low 15 } = .next t) ∧
    sending.port.getLsbD 2 = { sending with port := 0xC5 }.port.getLsbD 2 ∧ sending.attached 0 = false :=
  ⟨⟨_, _, rfl, rfl⟩, ⟨_, rfl⟩, ⟨_, rfl⟩, by decide, by decide⟩
theorem witness_TransmitterIgnoresTheChannelFile :
    isHandlerStep (.txData 4) = true ∧ ∃ t, exec (.txData 4) sending = .next t := ⟨rfl, _, rfl⟩

/-- One writer of each of the four. -/
theorem witness_WritersOfSharedState :
    (∃ t, exec (.stUpd 0) (updating 0) = .next t ∧ t.bitPlane ≠ (updating 0).bitPlane) ∧
    (∃ t, exec .atReg registering = .next t ∧ t.attachedPins ≠ registering.attachedPins) ∧
    (∃ t, exec .stLatch { armed with hst := .latch, cmdPin := 2, cmdThr := 1 } = .next t ∧ t.chan ≠ armed.chan) ∧
    (∃ t, exec (.txData 4) sending = .next t ∧ t.port ≠ sending.port) :=
  ⟨⟨_, rfl, by decide⟩, ⟨_, rfl, by decide⟩, ⟨_, rfl, by decide⟩, ⟨_, rfl, by decide⟩⟩
theorem witness_SequencerTransitions : (∃ t, exec (.stUpd 14) (updating 14) = .next t) ∧
    (∃ t, exec (.stUpd 15) (updating 15) = .next t) ∧
    (∃ t, exec (.txLow 14) { sending with seq := .low 14 } = .next t) ∧
    (∃ t, exec (.txLow 15) { sending with seq := .low 15 } = .next t) ∧
    (∃ t, exec .atSetup settingUp = .next t) ∧ (∃ t, exec .txStart ticking = .next t) :=
  ⟨⟨_, rfl⟩, ⟨_, rfl⟩, ⟨_, rfl⟩, ⟨_, rfl⟩, ⟨_, rfl⟩, ⟨_, rfl⟩⟩
theorem witness_AttachedBitsNeverFall :
    armed.Inv ∧ (∃ t, step armed = .next t) ∧ armed.attached 2 = true := ⟨witness_inv_armed, ⟨_, rfl⟩, rfl⟩
theorem witness_TimerNeverStops : (∃ t, step armed = .next t) ∧ armed.timerActive = true := ⟨⟨_, rfl⟩, rfl⟩
/-- The last ST_UPD makes the response valid; then a step of the environment leaves it so. -/
theorem witness_ResponseValidOnlyWhenReady :
    ((updating 15).rspValid = true → (updating 15).hst = .ready) ∧
    (∃ t, step { updating 15 with sched := [.host] } = .next t ∧ t.rspValid = true) ∧
    { armed with rspValid := true }.rspValid = true := ⟨by decide, ⟨_, rfl, rfl⟩, rfl⟩

theorem witness_StepKeepsTheInvariant :
    armed.Inv ∧ (∃ t, step armed = .next t) ∧ sending.Inv ∧ (∃ t, step sending = .next t) :=
  ⟨witness_inv_armed, ⟨_, rfl⟩, witness_inv_sending, ⟨_, rfl⟩⟩
/-- A run from reset that attaches pin 2; pin 0 is never attached. -/
theorem witness_NeverAttachedReadsOne :
    ∃ t, Reach { State.reset with sched := [.command 0x5000] } t ∧ t.attached 2 = true ∧ t.attached 0 = false ∧
      ¬(t.hst = .reg ∧ t.cmdPin = 0) :=
  ⟨_, .step (.refl _) rfl, by decide, by decide, by decide⟩
/-- The first and the last position. -/
theorem witness_UpdateFinishes : ((updating 0).hst = .upd 0 ∧ (updating 0).seq = .idle) ∧
    ((updating 15).hst = .upd 15 ∧ (updating 15).seq = .idle) := by decide

/-- The first and the last cycle of a period; and a timer that is off. -/
theorem witness_TimerPeriod :
    (armed.timerActive = true ∧ armed.tcnt = 0 ∧ armed.tcmp = BitVec.ofNat 16 (Config.timing.tickPeriod - 1)) ∧
    (0 < Config.timing.tickPeriod ∧ Config.timing.tickPeriod - 1 < Config.timing.tickPeriod) ∧
    plain.timerActive = false :=
  ⟨⟨rfl, rfl, rfl⟩, ⟨Config.tickPeriod_bounds.1, Nat.sub_lt Config.tickPeriod_bounds.1 Nat.one_pos⟩, rfl⟩
/-- The first and the last cycle of a slot. -/
theorem witness_WaveformOnAttachedPin :
    ({ sending with seq := .data 0, hold := Config.timing.nH }.hold = Config.timing.nH ∧
      sending.draining = false ∧ sending.attached 2 = true ∧ sending.port.getLsbD 2 = true) ∧
    0 < Config.timing.nBit ∧ Config.timing.nBit - 1 < Config.timing.nBit := by
  have h := Config.timing_ok
  simp [Config.Timing.ok] at h
  refine ⟨⟨rfl, rfl, by decide, by decide⟩, ?_⟩
  unfold Config.Timing.nBit
  omega
/-- The first cycle after the match is one in which the handler runs (where `L_ISR` is 0, R5's example, the range of
the first clause is empty). -/
theorem witness_TransmissionLasts :
    (armed.seq = .idle ∧ armed.draining = false ∧ armed.timerActive = true ∧ armed.irqEn = true) ∧
    ({ armed with tcnt := armed.tcmp }.tcnt = armed.tcmp ∧
      armed.tcmp = BitVec.ofNat 16 (Config.timing.tickPeriod - 1)) ∧
    1 < 1 + Config.timing.lIsr + 16 * Config.timing.nBit := by
  have h := Config.timing_ok
  simp [Config.Timing.ok] at h
  refine ⟨by decide, ⟨rfl, rfl⟩, ?_⟩
  unfold Config.Timing.nBit
  omega
theorem witness_TimedCycleIsUntimedSteps : sending.DrainFits ∧
    { sending with seq := .low 15, draining := true }.DrainFits := by
  unfold State.DrainFits
  decide

end Sys2Proof.Tests
end

section
/-! PROOFS. The check `Timing.ok` read as propositions, and what it gives of the constant `timing`. -/

namespace Sys2Proof.Config

/-- The Boolean check says exactly R5's constraints: `F_CLK` is a multiple of `F_TICK`, the period fits the 16-bit
counter, each hold lasts, and the transmission ends inside a period. -/
theorem Timing.ok_iff (t : Timing) :
    t.ok = true ↔ fTick ∣ t.fClk ∧ t.tickPeriod ≤ 2 ^ 16 ∧ 1 ≤ t.nH ∧ 1 ≤ t.nD ∧ 1 ≤ t.nL ∧
      t.lIsr + 16 * t.nBit < t.tickPeriod := by
  simp only [Timing.ok, Bool.and_eq_true, beq_iff_eq, decide_eq_true_eq, Nat.dvd_iff_mod_eq_zero, and_assoc]

/-- Where `F_TICK` divides `F_CLK`, the period is exact: no clock cycle is lost in the division. -/
theorem Timing.tickPeriod_mul_fTick {t : Timing} (hdvd : fTick ∣ t.fClk) : t.tickPeriod * fTick = t.fClk :=
  Nat.div_mul_cancel hdvd

end Sys2Proof.Config

namespace Sys2Proof.Proofs
open Sys2Proof.Config

/-- Settles O56: whichever branch `timing` took meets the check (`timing_ok`), and the check is the constraints. -/
theorem timingConstraints : Obligations.TimingConstraints := by
  obtain ⟨hdvd, hperiod, hH, hD, hL, hfits⟩ := (Timing.ok_iff timing).mp timing_ok
  exact ⟨hperiod, hH, hD, hL, Timing.tickPeriod_mul_fTick hdvd, hfits⟩

end Sys2Proof.Proofs
end

section
/-! PROOFS. What a step of the machine is made of: atomic changes of the host's side of the block (`HostStep`), and
the steps of the timer, the transmitter and the environment, which leave the host's side as it was (R38). From it,
once, how a property of states is carried over a step. -/

namespace Sys2Proof.Machine

/-- One atomic change the host's side of the block can make, with the condition it is made under: the three cases of
ISSUE and the consumption of its word (R80), then the micro-steps (R82 to R84, R86 to R88). -/
inductive HostStep (s : State) : State → Prop where
  /-- ISSUE consumes the word on the command port. -/
  | consume : HostStep s (s.setCmd none)
  /-- ISSUE of ATTACH `p`. -/
  | issueAttach {p : Pin} (hready : s.hst = .ready) (hfree : s.attached p = false) :
      HostStep s ((s.latchPin p).setHst (if s.timerActive then .init else .setup))
  /-- ISSUE of SET_THROTTLE `p, v`. -/
  | issueSetThrottle {p : Pin} {v : Throttle} (hready : s.hst = .ready) (hatt : s.attached p = true) :
      HostStep s (((s.latchPin p).latchThrottle v).setHst .latch)
  /-- ISSUE of ENCODE `v`. -/
  | issueEncode {v : Throttle} (hready : s.hst = .ready) :
      HostStep s (((s.latchPin 0).latchThrottle v).setHst .enc)
  /-- AT_SETUP. -/
  | atSetup (hhst : s.hst = .setup) (hidle : s.seq = .idle) :
      HostStep s ((s.fillStore.detachAll.armTimer).setHst .init)
  /-- AT_INIT. -/
  | atInit (hhst : s.hst = .init) :
      HostStep s (((s.setChannel s.cmdPin 0 0).clearColumn s.cmdPin).setHst .reg)
  /-- AT_REG. -/
  | atReg (hhst : s.hst = .reg) : HostStep s ((s.register s.cmdPin).setHst .ready)
  /-- ST_LATCH. -/
  | stLatch (hhst : s.hst = .latch) :
      HostStep s ((s.setChannel s.cmdPin s.cmdThr (encodeFrame s.cmdThr)).setHst (.upd 0))
  /-- ST_UPD(`i`) for `i` below 15. -/
  | stUpd {i j : Pos} (hhst : s.hst = .upd i) (hnext : nextPos i = some j) :
      HostStep s ((s.memWrite i (updatedEntry s i)).setHst (.upd j))
  /-- ST_UPD(15). -/
  | stUpdLast (hhst : s.hst = .upd 15) :
      HostStep s (((s.memWrite 15 (updatedEntry s 15)).respond (s.packet s.cmdPin)).setHst .ready)
  /-- ENC_EXEC. -/
  | encExec (hhst : s.hst = .enc) : HostStep s ((s.respond (encodeFrame s.cmdThr)).setHst .ready)

/-- Host steps one after the other. -/
abbrev HostRun : State → State → Prop := Relation.ReflTransGen HostStep

/-- What every host step keeps, a run of them keeps. -/
theorem HostRun.keeps {P : State → Prop} (hstep : ∀ s t, P s → HostStep s t → P t) {s t : State}
    (h : HostRun s t) (hs : P s) : P t := by
  induction h with
  | refl => exact hs
  | tail _ hlast ih => exact hstep _ _ ih hlast

/-! Each host meaning is a run of host steps. -/

theorem issueWord_hostRun {w : CmdWord} {s t : State} (h : issueWord w s = .next t) : HostRun s t := by
  obtain ⟨hready, -, ⟨p, -, hfree, rfl⟩ | ⟨p, v, -, hatt, rfl⟩ | ⟨v, -, rfl⟩⟩ := issueWord_next h
  · exact .single (.issueAttach hready hfree)
  · exact .single (.issueSetThrottle hready hatt)
  · exact .single (.issueEncode hready)

theorem execIssue_hostRun {s t : State} (h : execIssue s = .next t) : HostRun s t := by
  obtain ⟨w, -, hw⟩ := execIssue_next h
  exact .head .consume (issueWord_hostRun hw)

theorem execAtSetup_hostRun {s t : State} (h : execAtSetup s = .next t) : HostRun s t := by
  obtain ⟨hhst, hidle, rfl⟩ := execAtSetup_next h
  exact .single (.atSetup hhst hidle)

theorem execAtInit_hostRun {s t : State} (h : execAtInit s = .next t) : HostRun s t := by
  obtain ⟨hhst, -, rfl⟩ := execAtInit_next h
  exact .single (.atInit hhst)

theorem execAtReg_hostRun {s t : State} (h : execAtReg s = .next t) : HostRun s t := by
  obtain ⟨hhst, -, rfl⟩ := execAtReg_next h
  exact .single (.atReg hhst)

theorem execStLatch_hostRun {s t : State} (h : execStLatch s = .next t) : HostRun s t := by
  obtain ⟨hhst, -, rfl⟩ := execStLatch_next h
  exact .single (.stLatch hhst)

theorem execStUpd_hostRun {i : Pos} {s t : State} (h : execStUpd i s = .next t) : HostRun s t := by
  obtain ⟨hhst, -, rfl⟩ := execStUpd_next h
  obtain ⟨j, hnext, e⟩ | ⟨rfl, e⟩ := advanceUpd_cases i (s.memWrite i (updatedEntry s i))
  · exact e ▸ .single (.stUpd hhst hnext)
  · exact e ▸ .single (.stUpdLast hhst)

theorem execEncExec_hostRun {s t : State} (h : execEncExec s = .next t) : HostRun s t := by
  obtain ⟨hhst, -, rfl⟩ := execEncExec_next h
  exact .single (.encExec hhst)

/-- The optional AT_SETUP of ATTACH: made, or nothing (R61). -/
theorem setupIfNeeded_next {s t : State} (h : setupIfNeeded s = .next t) : execAtSetup s = .next t ∨ t = s := by
  unfold setupIfNeeded at h
  split at h
  · exact .inl h
  · exact .inr (by simpa using h.symm)

/-- ATTACH's expansion taken apart (R61, R81). -/
theorem execAttach_next {p : Pin} {s t : State} (h : execAttach p s = .next t) :
    ∃ a b c, issueWord (cmdWord 0b01 p 0) s = .next a ∧ setupIfNeeded a = .next b ∧ execAtInit b = .next c ∧
      execAtReg c = .next t := by
  obtain ⟨c, hc, hreg⟩ := andThen_eq_next.1 h
  obtain ⟨b, hb, hinit⟩ := andThen_eq_next.1 hc
  obtain ⟨a, hissue, hsetup⟩ := andThen_eq_next.1 hb
  exact ⟨a, b, c, hissue, hsetup, hinit, hreg⟩

/-- SET_THROTTLE's expansion taken apart (R61, R85). -/
theorem execSetThrottle_next {p : Pin} {v : Throttle} {s t : State} (h : execSetThrottle p v s = .next t) :
    ∃ a b, issueWord (cmdWord 0b10 p v) s = .next a ∧ execStLatch a = .next b ∧
      forEach execStUpd positions b = .next t := by
  obtain ⟨b, hb, hupd⟩ := andThen_eq_next.1 h
  obtain ⟨a, hissue, hlatch⟩ := andThen_eq_next.1 hb
  exact ⟨a, b, hissue, hlatch, hupd⟩

theorem execAttach_hostRun {p : Pin} {s t : State} (h : execAttach p s = .next t) : HostRun s t := by
  obtain ⟨a, b, c, hissue, hsetup, hinit, hreg⟩ := execAttach_next h
  have hab : HostRun a b := by
    obtain hsetup | rfl := setupIfNeeded_next hsetup
    · exact execAtSetup_hostRun hsetup
    · exact .refl
  exact (issueWord_hostRun hissue).trans (hab.trans ((execAtInit_hostRun hinit).trans (execAtReg_hostRun hreg)))

theorem execSetThrottle_hostRun {p : Pin} {v : Throttle} {s t : State} (h : execSetThrottle p v s = .next t) :
    HostRun s t := by
  obtain ⟨a, b, hissue, hlatch, hupd⟩ := execSetThrottle_next h
  have hbt : HostRun b t :=
    forEach_keeps (P := HostRun b) (fun _ _ _ hr hu => hr.trans (execStUpd_hostRun hu)) _ _ _ .refl hupd
  exact (issueWord_hostRun hissue).trans ((execStLatch_hostRun hlatch).trans hbt)

theorem execEncode_hostRun {v : Throttle} {s t : State} (h : execEncode v s = .next t) : HostRun s t := by
  obtain ⟨a, hissue, henc⟩ := andThen_eq_next.1 h
  exact (issueWord_hostRun hissue).trans (execEncExec_hostRun henc)

/-- A step of the host: format CMD16 or HST7 (R50, R55). -/
def isHostStep : Instr → Bool
  | .txStart | .txHigh _ | .txData _ | .txLow _ | .timerMatch | .envPort _ => false
  | .attach _ | .setThrottle _ _ | .encode _ | .issue | .atSetup | .atInit | .atReg | .stLatch | .stUpd _
  | .encExec => true

/-- A host step of the opcode table is a run of atomic host changes. -/
theorem exec_hostRun {i : Instr} {s t : State} (hi : isHostStep i = true) (h : exec i s = .next t) : HostRun s t := by
  cases i with
  | attach p => exact execAttach_hostRun h
  | setThrottle p v => exact execSetThrottle_hostRun h
  | encode v => exact execEncode_hostRun h
  | issue => exact execIssue_hostRun h
  | atSetup => exact execAtSetup_hostRun h
  | atInit => exact execAtInit_hostRun h
  | atReg => exact execAtReg_hostRun h
  | stLatch => exact execStLatch_hostRun h
  | stUpd k => exact execStUpd_hostRun h
  | encExec => exact execEncExec_hostRun h
  | txStart | txHigh k | txData k | txLow k | timerMatch | envPort v => cases hi

/-- A step of the transmitter, the timer or the environment leaves the host's side as it was (R38 item 1, R106). -/
theorem exec_sameHost {i : Instr} {s t : State} (hi : isHostStep i = false) (h : exec i s = .next t) :
    s.SameHost t := by
  cases i with
  | txStart => obtain ⟨-, -, -, rfl⟩ := execTxStart_next h; simp [State.SameHost]
  | txHigh k => obtain ⟨-, rfl⟩ := execTxHigh_next h; simp [State.SameHost, txHighEffect]
  | txData k => obtain ⟨-, rfl⟩ := execTxData_next h; simp [State.SameHost, txDataEffect]
  | txLow k =>
    obtain ⟨-, rfl⟩ := execTxLow_next h
    obtain ⟨j, -, e⟩ | ⟨-, e⟩ := txLowAdvance_cases k (txLowPort s)
    · rw [e]; simp [State.SameHost, txLowPort]
    · rw [e]; simp [State.SameHost, txLowPort]
  | timerMatch => obtain ⟨-, rfl⟩ := execTimerMatch_next h; simp [State.SameHost]
  | envPort v => obtain ⟨-, rfl⟩ := execEnvPort_next h; simp [State.SameHost]
  | attach | setThrottle | encode | issue | atSetup | atInit | atReg | stLatch | stUpd | encExec => cases hi

/-! The transmitter's words are read by its own move alone. -/

theorem decodeHst_ne_txLow (w : BitVec 7) (k : Pos) : decodeHst w ≠ .ok (.txLow k) := by
  unfold decodeHst
  split_ifs <;> simp

theorem decode_cmd16_ne_txLow (w : BitVec 16) (k : Pos) : decode (.cmd16 w) ≠ .ok (.txLow k) := by
  intro h
  replace h : (decodeCmd w).map Command.instr = .ok (.txLow k) := h
  cases hw : decodeCmd w with
  | error e => rw [hw] at h; cases h
  | ok c => rw [hw] at h; cases c <;> cases h

/-- An untimed TX_LOW is made by a move that has cleared the model's draining mark (log 16). -/
theorem accept_draining_of_txLow {s : State} {m : Move} {rest : List Move} {w : FetchWord} {k : Pos}
    (hf : (s.accept m rest).fetch m = some w) (hd : decode w = .ok (.txLow k)) :
    (s.accept m rest).draining = false := by
  cases m with
  | transmitter => rfl
  | command c => cases hf; exact absurd hd (decode_cmd16_ne_txLow _ _)
  | issue c => cases hf; exact absurd hd (decodeHst_ne_txLow _ _)
  | host => cases hf; exact absurd hd (decodeHst_ne_txLow _ _)
  | timer => cases hf; simp [decode] at hd
  | env v => cases hf; simp [decode] at hd
  | clock b => cases hf

/-- A property of states is kept by every step of the machine when it is kept by what a move changes beforehand, by
each atomic host change, by each step of the other agents, and by a clock cycle. -/
theorem step_keeps {P : State → Prop}
    (haccept : ∀ s m rest, P s → P (s.accept m rest))
    (hhost : ∀ s t, P s → HostStep s t → P t)
    (hother : ∀ i s t, isHostStep i = false → (∀ k, i = .txLow k → s.draining = false) → P s →
      exec i s = .next t → P t)
    (hcycle : ∀ s b, P s → P (s.cycle b))
    {s t : State} (hs : P s) (h : step s = .next t) : P t := by
  obtain ⟨-, rfl⟩ | ⟨m, rest, -, -, rfl⟩ | ⟨m, rest, w, i, -, hf, hd, hx⟩ := step_next h
  · exact hcycle s _ hs
  · exact hcycle _ _ (haccept s m rest hs)
  · have hu := haccept s m rest hs
    cases hi : isHostStep i with
    | true => exact (exec_hostRun hi hx).keeps hhost hu
    | false => exact hother i _ _ hi (fun k hk => accept_draining_of_txLow hf (hk ▸ hd)) hu hx

/-- Two states with the same mode of the host's side: what is attached, whether the timer runs, the stage of the
command and whether the response is valid. -/
def State.SameMode (s t : State) : Prop :=
  t.attachedPins = s.attachedPins ∧ t.timerActive = s.timerActive ∧ t.hst = s.hst ∧ t.rspValid = s.rspValid

theorem State.SameHost.sameMode {s t : State} (h : s.SameHost t) : s.SameMode t := by
  obtain ⟨-, -, hatt, hhst, -, -, -, hvalid, htimer, -, -, -⟩ := h
  exact ⟨hatt, htimer, hhst, hvalid⟩

theorem accept_sameMode (s : State) (m : Move) (rest : List Move) : s.SameMode (s.accept m rest) := by
  obtain ⟨-, hatt, htimer, -, -, -, hhst, -, -, -, -, -, -, -, hvalid, -, -⟩ := accept_frame s m rest
  exact ⟨hatt, htimer, hhst, hvalid⟩

/-- A property of the host's mode is kept by every step when each atomic host change keeps it. -/
theorem step_keeps_mode {P : State → Prop} (hmode : ∀ s t, s.SameMode t → P s → P t)
    (hhost : ∀ s t, P s → HostStep s t → P t) {s t : State} (hs : P s) (h : step s = .next t) : P t :=
  step_keeps (fun s m rest => hmode _ _ (accept_sameMode s m rest)) hhost
    (fun _ _ _ hi _ hs hx => hmode _ _ (exec_sameHost hi hx).sameMode hs)
    (fun s b => hmode _ _ (cycle_frame b s).sameMode) hs h

end Sys2Proof.Machine
end

section
/-! PROOFS. The invariant of the block (R22, R23): it holds after reset, every atomic host change keeps each of its
parts, and so do the events of the timer and the transmitter, untimed and in a clock cycle. -/

namespace Sys2Proof.Machine

/-! ### The invariant's parts about the command in flight and the flags, by what they say -/

section
variable {s : State}

/-- SET_THROTTLE in flight names an attached pin (R80). -/
theorem State.Inv.attached_cmdPin (hi : s.Inv) (h : s.hst = .latch ∨ ∃ k, s.hst = .upd k) :
    s.attached s.cmdPin = true := hi.command.1 h

/-- Setup comes before the timer runs (R81). -/
theorem State.Inv.timerOff_of_setup (hi : s.Inv) (h : s.hst = .setup) : s.timerActive = false := hi.command.2.1 h

/-- ATTACH in flight past setup: the timer runs and the pin is not attached yet (R80, R91). -/
theorem State.Inv.attaching (hi : s.Inv) (h : s.hst = .init ∨ s.hst = .reg) :
    s.timerActive = true ∧ s.attached s.cmdPin = false := hi.command.2.2 h

/-- A tick is pending only with the timer running (R112). -/
theorem State.Inv.timerActive_of_tickPending (hi : s.Inv) (h : s.tickPending = true) : s.timerActive = true := by
  by_contra hoff
  obtain ⟨-, hnone, -⟩ := hi.flags.1 (by simpa using hoff)
  simp [hnone] at h

/-- A pin is attached only with the timer running (R112). -/
theorem State.Inv.timerActive_of_attached (hi : s.Inv) {p : Pin} (h : s.attached p = true) :
    s.timerActive = true := by
  by_contra hoff
  obtain ⟨hnone, -, -⟩ := hi.flags.1 (by simpa using hoff)
  simp [State.attached, hnone] at h

/-- With the timer running the flags fit when `irq_en` is 0 exactly in the handler (R17). -/
theorem flagsFit_of_timerActive (hon : s.timerActive = true) (h : s.irqEn = !s.inHandler) : s.FlagsFit :=
  ⟨fun hoff => absurd (hon.symm.trans hoff) (by simp), fun _ => h⟩

end

/-! ### The host's side, one part of the invariant after the other -/

section
variable {s t : State}

/-- R22: AT_SETUP fills the store, AT_INIT clears the column of a pin that is from then on excepted, AT_REG attaches
that pin, and ST_UPD writes the column of an attached pin only. -/
theorem HostStep.unattached (h : HostStep s t) (hi : s.Inv) : t.UnattachedReadsOne := by
  intro q hq hexc i
  cases h with
  | consume => exact hi.unattached q hq hexc i
  | issueAttach hready _ | issueSetThrottle hready _ | issueEncode hready =>
    exact hi.unattached q hq (by simp [hready]) i
  | atSetup _ _ => exact storeBit_fillStore s i q
  | atInit hhst =>
    have hne : q ≠ s.cmdPin := fun e => hexc ⟨rfl, e.symm⟩
    have hbit : s.storeBit i q = true := hi.unattached q hq (by simp [hhst]) i
    calc (s.clearColumn s.cmdPin).storeBit i q = (s.storeBit i q && !decide (q = s.cmdPin)) :=
          storeBit_clearColumn s i s.cmdPin q
      _ = true := by simp [hbit, hne]
  | atReg hhst =>
    simp only [attached_setHst, attached_register, Bool.or_eq_false_iff, decide_eq_false_iff_not] at hq
    exact hi.unattached q hq.1 (fun e => hq.2 e.2.symm) i
  | stLatch hhst | encExec hhst => exact hi.unattached q hq (by simp [hhst]) i
  | stUpd hhst _ | stUpdLast hhst =>
    have hatt : s.attached s.cmdPin = true := hi.attached_cmdPin (.inr ⟨_, hhst⟩)
    have hne : q ≠ s.cmdPin := by
      rintro rfl
      exact absurd hatt (by simpa using hq)
    refine (storeBit_update s _ i q).trans ?_
    rw [if_neg (fun e => hne e.2)]
    exact hi.unattached q hq (by simp [hhst]) i

/-- The store after ST_UPD(`k`), read in the column of an attached pin at a position already written: it spells the
packet if the positions below `k` did before (R23, R87). -/
theorem storeBit_update_of_attachedReads (hi : s.AttachedReadsPacket) {k i : Pos} {q : Pin} (hhst : s.hst = .upd k)
    (hatt : s.attached q = true) (hle : s.cmdPin = q → i ≤ k) :
    (s.memWrite k (updatedEntry s k)).storeBit i q = frameBit (s.packet q) i := by
  rw [storeBit_update]
  split
  · next e =>
    obtain ⟨rfl, rfl⟩ := e
    rfl
  · next e =>
    refine hi q hatt i fun k' hk' hpin => ?_
    obtain rfl : k = k' := by simpa [hhst] using hk'
    exact lt_of_le_of_ne (hle hpin) fun e' => e ⟨e', hpin.symm⟩

/-- R23: AT_REG attaches a pin whose packet and column are both 0, ST_LATCH leaves every position of its pin still to
be written, and each ST_UPD writes the next of them. -/
theorem HostStep.attachedPacket (h : HostStep s t) (hi : s.Inv) : t.AttachedReadsPacket := by
  intro q hq i hpos
  cases h with
  | consume => exact hi.attachedPacket q hq i hpos
  | issueAttach hready _ | issueSetThrottle hready _ | issueEncode hready =>
    exact hi.attachedPacket q hq i (by simp [hready])
  | atSetup _ _ => cases (attached_detachAll s.fillStore q).symm.trans hq
  | atInit hhst =>
    have hfree : s.attached s.cmdPin = false := (hi.attaching (.inl hhst)).2
    have hne : q ≠ s.cmdPin := by
      rintro rfl
      exact absurd (hfree.symm.trans hq) (by simp)
    have hbit : s.storeBit i q = frameBit (s.packet q) i := hi.attachedPacket q hq i (by simp [hhst])
    calc (s.clearColumn s.cmdPin).storeBit i q = (s.storeBit i q && !decide (q = s.cmdPin)) :=
          storeBit_clearColumn s i s.cmdPin q
      _ = frameBit (s.packet q) i := by simp [hbit, hne]
      _ = frameBit ((s.setChannel s.cmdPin 0 0).packet q) i := by rw [packet_setChannel_other s 0 0 hne.symm]
  | atReg hhst =>
    by_cases e : q = s.cmdPin
    · obtain ⟨hslot, hcol⟩ := hi.slots.2 hhst
      subst e
      calc s.storeBit i s.cmdPin = false := hcol i
        _ = frameBit (s.packet s.cmdPin) i := by rw [packet_of_slot hslot, frameBit_zero]
    · exact hi.attachedPacket q (by simpa [e] using hq) i (by simp [hhst])
  | stLatch hhst =>
    have hne : s.cmdPin ≠ q := fun e => absurd (hpos 0 rfl e) (by simp)
    calc s.storeBit i q = frameBit (s.packet q) i := hi.attachedPacket q hq i (by simp [hhst])
      _ = frameBit ((s.setChannel s.cmdPin _ _).packet q) i := by rw [packet_setChannel_other s _ _ hne]
  | @stUpd k j hhst hnext =>
    refine storeBit_update_of_attachedReads hi.attachedPacket hhst hq fun hpin => ?_
    have hlt : i < j := hpos j rfl hpin
    have hj : (j : Nat) = k + 1 := nextPos_some hnext
    exact Fin.le_def.2 (by have := Fin.lt_def.1 hlt; omega)
  | stUpdLast hhst =>
    exact storeBit_update_of_attachedReads hi.attachedPacket hhst hq fun _ => Fin.le_last i
  | encExec hhst => exact hi.attachedPacket q hq i (by simp [hhst])

/-- Writing one slot takes no slot away. -/
theorem chan_setChannel_isSome {p q : Pin} {v : Throttle} {f : Frame} (h : s.chan[q].isSome = true) :
    (s.setChannel p v f).chan[q].isSome = true := by
  by_cases e : p = q
  · subst e
    rw [chan_setChannel_same]
    rfl
  · rw [chan_setChannel_other s v f e]
    exact h

/-- R13: AT_INIT creates the slot and clears the column; AT_REG attaches a pin whose slot is there. -/
theorem HostStep.slots (h : HostStep s t) (hi : s.Inv) : t.SlotsCreated := by
  have hkept := hi.slots.1
  cases h with
  | consume => exact hi.slots
  | issueAttach _ _ =>
    refine ⟨hkept, fun e => ?_⟩
    simp only [State.setHst_hst] at e
    split at e <;> cases e
  | issueSetThrottle _ _ | issueEncode _ | stUpd _ _ | stUpdLast _ | encExec _ => exact ⟨hkept, nofun⟩
  | atSetup _ _ => exact ⟨fun q hq => (by cases (attached_detachAll s.fillStore q).symm.trans hq), nofun⟩
  | atInit _ =>
    have hcol (i : Pos) : (s.clearColumn s.cmdPin).storeBit i s.cmdPin = false := by simp
    exact ⟨fun q hq => chan_setChannel_isSome (hkept q hq), fun _ => ⟨chan_setChannel_same s _ 0 0, hcol⟩⟩
  | atReg hhst =>
    refine ⟨fun q hq => ?_, nofun⟩
    by_cases e : q = s.cmdPin
    · subst e
      exact Option.isSome_of_eq_some (hi.slots.2 hhst).1
    · exact hkept q (by simpa [e] using hq)
  | stLatch _ => exact ⟨fun q hq => chan_setChannel_isSome (hkept q hq), nofun⟩

/-- R80, R81, R85: which stage follows which, and what ISSUE has checked of the pin. -/
theorem HostStep.command (h : HostStep s t) (hi : s.Inv) : t.CommandFits := by
  cases h with
  | consume => exact hi.command
  | issueAttach _ hfree => cases ht : s.timerActive <;> simp [State.CommandFits, ht, hfree]
  | issueSetThrottle _ hatt => simp [State.CommandFits, hatt]
  | issueEncode _ | stUpdLast _ | encExec _ | atReg _ => simp [State.CommandFits]
  | atSetup _ _ => simp [State.CommandFits]
  | atInit hhst =>
    obtain ⟨hon, hfree⟩ := hi.attaching (.inl hhst)
    simp [State.CommandFits, hon, hfree]
  | stLatch hhst => simp [State.CommandFits, hi.attached_cmdPin (.inl hhst)]
  | stUpd hhst _ => simp [State.CommandFits, hi.attached_cmdPin (.inr ⟨_, hhst⟩)]

/-- R17, R112: AT_SETUP enables the interrupt outside a transmission, and AT_REG attaches with the timer running. -/
theorem HostStep.flags (h : HostStep s t) (hi : s.Inv) : t.FlagsFit := by
  cases h with
  | atSetup _ hidle => simp [State.FlagsFit, State.inHandler, hidle]
  | atReg hhst =>
    have hon : s.timerActive = true := (hi.attaching (.inr hhst)).1
    exact flagsFit_of_timerActive hon (hi.flags.2 hon)
  | _ => exact hi.flags

/-- R19: AT_SETUP programs the compare value and clears the count. -/
theorem HostStep.timer (h : HostStep s t) (hi : s.Inv) : t.TimerFits := by
  cases h with
  | atSetup _ _ => exact fun _ => ⟨Config.tcmp_toNat, Nat.zero_le _⟩
  | _ => exact hi.timer

/-- Every atomic host change keeps the invariant. -/
theorem HostStep.inv (h : HostStep s t) (hi : s.Inv) : t.Inv where
  unattached := h.unattached hi
  attachedPacket := h.attachedPacket hi
  slots := h.slots hi
  command := h.command hi
  flags := h.flags hi
  timer := h.timer hi
  drain := by cases h <;> exact hi.drain

end

/-! ### The timer, the transmitter and the environment -/

section
variable {s : State}

/-! Each named update that occurs in their events, once. -/

theorem State.Inv.writePort (hi : s.Inv) (v : Mask) : (s.writePort v).Inv :=
  ⟨hi.unattached, hi.attachedPacket, hi.slots, hi.command, hi.flags, hi.timer, hi.drain⟩

theorem State.Inv.setHold (hi : s.Inv) (n : Nat) : (s.setHold n).Inv :=
  ⟨hi.unattached, hi.attachedPacket, hi.slots, hi.command, hi.flags, hi.timer, hi.drain⟩

theorem State.Inv.clearDraining (hi : s.Inv) : (s.setDraining false).Inv :=
  ⟨hi.unattached, hi.attachedPacket, hi.slots, hi.command, hi.flags, hi.timer, nofun⟩

theorem State.Inv.markDraining (hi : s.Inv) (hlast : s.seq = .low 15) : (s.setDraining true).Inv :=
  ⟨hi.unattached, hi.attachedPacket, hi.slots, hi.command, hi.flags, hi.timer, fun _ => hlast⟩

/-- The tick is raised only by a running timer, and the count it clears has not passed the compare value. -/
theorem State.Inv.raiseTick (hi : s.Inv) (hon : s.timerActive = true) : s.raiseTick.Inv where
  unattached := hi.unattached
  attachedPacket := hi.attachedPacket
  slots := hi.slots
  command := hi.command
  flags := flagsFit_of_timerActive hon (hi.flags.2 hon)
  timer := fun _ => ⟨(hi.timer hon).1, Nat.zero_le _⟩
  drain := hi.drain

/-- A count that has not reached the compare value does not pass it in one cycle (R100). -/
theorem State.Inv.countCycle (hi : s.Inv) (hon : s.timerActive = true) (hne : s.tcnt ≠ s.tcmp) :
    s.countCycle.Inv where
  unattached := hi.unattached
  attachedPacket := hi.attachedPacket
  slots := hi.slots
  command := hi.command
  flags := hi.flags
  timer := fun _ => by
    obtain ⟨hcmp, hle⟩ := hi.timer hon
    refine ⟨hcmp, ?_⟩
    have hlt : s.tcnt.toNat < s.tcmp.toNat := lt_of_le_of_ne hle fun e => hne (BitVec.eq_of_toNat_eq e)
    rw [State.countCycle_tcnt, State.countCycle_tcmp]
    bv_omega
  drain := hi.drain

/-- The draining mark is off wherever the transmitter is not in the last slot. -/
theorem State.Inv.draining_eq_false (hi : s.Inv) (h : s.seq ≠ .low 15) : s.draining = false :=
  Bool.eq_false_iff.2 fun hd => h (hi.drain hd)

theorem inHandler_of_ne_idle (h : s.seq ≠ .idle) : s.inHandler = true := by
  unfold State.inHandler
  cases hq : s.seq with
  | idle => exact absurd hq h
  | high i | data i | low i => rfl

/-- An interrupt is taken with a tick pending, so with the timer running (R102). -/
theorem State.Inv.takeInterrupt (hi : s.Inv) (hidle : s.seq = .idle) (hpend : s.tickPending = true) :
    s.takeInterrupt.Inv where
  unattached := hi.unattached
  attachedPacket := hi.attachedPacket
  slots := hi.slots
  command := hi.command
  flags := flagsFit_of_timerActive (s := s.takeInterrupt) (hi.timerActive_of_tickPending hpend) rfl
  timer := hi.timer
  drain := fun hd => absurd (hidle.symm.trans (hi.drain hd)) (by simp)

/-- The handler returns with the timer running and no hold of the timed view left (R105). -/
theorem State.Inv.returnFromInterrupt (hi : s.Inv) (hrun : s.seq ≠ .idle) (hd : s.draining = false) :
    s.returnFromInterrupt.Inv where
  unattached := hi.unattached
  attachedPacket := hi.attachedPacket
  slots := hi.slots
  command := hi.command
  flags := by
    have hon := timerActive_of_handler hi hrun
    exact flagsFit_of_timerActive hon rfl
  timer := hi.timer
  drain := fun hd' => absurd (hd.symm.trans hd') (by simp)

/-- The transmitter moves on inside the handler: nothing the flags depend on changes (R103 to R105). -/
theorem State.Inv.setSeq (hi : s.Inv) {q : Seq} (hrun : s.seq ≠ .idle) (hq : q ≠ .idle) (hd : s.draining = false) :
    (s.setSeq q).Inv where
  unattached := hi.unattached
  attachedPacket := hi.attachedPacket
  slots := hi.slots
  command := hi.command
  flags := by
    have hon := timerActive_of_handler hi hrun
    have hin : (s.setSeq q).inHandler = s.inHandler :=
      (inHandler_of_ne_idle (s := s.setSeq q) hq).trans (inHandler_of_ne_idle hrun).symm
    exact flagsFit_of_timerActive hon (hin.symm ▸ hi.flags.2 hon)
  timer := hi.timer
  drain := fun hd' => absurd (hd.symm.trans hd') (by simp)

/-- What a move changes before it is made keeps the invariant. -/
theorem State.Inv.accept (hi : s.Inv) (m : Move) (rest : List Move) : (s.accept m rest).Inv := by
  obtain ⟨hstore, hatt, hon, hchan, -, hseq, hhst, hpin, -, hirq, htick, hcnt, hcmp, -, -, -, hdrain⟩ :=
    accept_frame s m rest
  exact inv_congr hi hstore hatt hon hchan hseq hhst hpin hirq htick hcnt hcmp hdrain

/-! The effects of the transmitter's micro-operations, shared by the two views. -/

theorem inv_txHighEffect (hi : s.Inv) {i : Pos} (h : s.seq = .high i) : (txHighEffect i s).Inv :=
  (hi.writePort _).setSeq (by simp [h]) (by simp) (hi.draining_eq_false (by simp [h]))

theorem inv_txDataEffect (hi : s.Inv) {i : Pos} (h : s.seq = .data i) : (txDataEffect i s).Inv :=
  (hi.writePort _).setSeq (by simp [h]) (by simp) (hi.draining_eq_false (by simp [h]))

theorem inv_txLowPort (hi : s.Inv) : (txLowPort s).Inv := hi.writePort _

/-- TX_LOW below slot 15: the next slot. -/
theorem State.Inv.txLowNext (hi : s.Inv) {i j : Pos} (h : s.seq = .low i) (hj : nextPos i = some j) :
    ((txLowPort s).setSeq (.high j)).Inv := by
  have hne : i ≠ 15 := by
    rintro rfl
    cases hj
  have hrun : s.seq ≠ .idle := by simp [h]
  exact (inv_txLowPort hi).setSeq hrun (by simp) (hi.draining_eq_false (by simp [h, hne]))

/-- Each step of the transmitter, the timer or the environment keeps the invariant; TX_LOW(15) does where no timed
hold is running (log 16). -/
theorem State.Inv.exec_other (hi : s.Inv) {i : Instr} {t : State} (hother : isHostStep i = false)
    (hdrain : ∀ k, i = .txLow k → s.draining = false) (h : exec i s = .next t) : t.Inv := by
  cases i with
  | txStart =>
    obtain ⟨hidle, hpend, -, rfl⟩ := execTxStart_next h
    exact hi.takeInterrupt hidle hpend
  | txHigh k =>
    obtain ⟨hseq, rfl⟩ := execTxHigh_next h
    exact inv_txHighEffect hi hseq
  | txData k =>
    obtain ⟨hseq, rfl⟩ := execTxData_next h
    exact inv_txDataEffect hi hseq
  | txLow k =>
    obtain ⟨hseq, rfl⟩ := execTxLow_next h
    obtain ⟨j, hj, e⟩ | ⟨-, e⟩ := txLowAdvance_cases k (txLowPort s)
    · exact e ▸ hi.txLowNext hseq hj
    · have hrun : s.seq ≠ .idle := by simp [hseq]
      exact e ▸ (inv_txLowPort hi).returnFromInterrupt hrun (hdrain k rfl)
  | timerMatch =>
    obtain ⟨hon, rfl⟩ := execTimerMatch_next h
    exact hi.raiseTick hon
  | envPort v =>
    obtain ⟨-, rfl⟩ := execEnvPort_next h
    exact hi.writePort _
  | attach | setThrottle | encode | issue | atSetup | atInit | atReg | stLatch | stUpd | encExec => cases hother

/-! The four parts of a clock cycle (R100, R108). -/

theorem inv_timerCycle (hi : s.Inv) : (timerCycle s).Inv := by
  obtain ⟨hon, -, e⟩ | ⟨hon, hne, e⟩ | ⟨-, e⟩ := timerCycle_cases s
  · exact e ▸ hi.raiseTick hon
  · exact e ▸ hi.countCycle hon hne
  · rwa [e]

theorem inv_endCycle (hi : s.Inv) : (endCycle s).Inv := by
  obtain ⟨hd, -, e⟩ | ⟨-, e⟩ := endCycle_cases s
  · rw [e]
    exact hi.clearDraining.returnFromInterrupt (by simp [hi.drain hd]) rfl
  · rwa [e]

theorem inv_startCycle (hi : s.Inv) (take : Bool) : (startCycle take s).Inv := by
  obtain ⟨-, hidle, hpend, -, e⟩ | ⟨-, e⟩ := startCycle_cases take s
  · exact e ▸ (hi.takeInterrupt hidle hpend).setHold _
  · rwa [e]

theorem inv_portCycle (hi : s.Inv) : (portCycle s).Inv := by
  by_cases h0 : s.hold = 0
  · cases hseq : s.seq with
    | idle => rwa [portCycle_idle hseq]
    | high i => exact (portCycle_high h0 hseq) ▸ (inv_txHighEffect hi hseq).setHold _
    | data i => exact (portCycle_data h0 hseq) ▸ (inv_txDataEffect hi hseq).setHold _
    | low i =>
      cases hj : nextPos i with
      | some j => exact (portCycle_low h0 hseq hj) ▸ (hi.txLowNext hseq hj).setHold _
      | none =>
        obtain rfl := nextPos_none hj
        rw [portCycle_last h0 hseq]
        exact ((inv_txLowPort hi).markDraining hseq).setHold _
  · rwa [portCycle_of_hold h0]

theorem State.Inv.cycle (hi : s.Inv) (take : Bool) : (s.cycle take).Inv :=
  inv_portCycle (inv_startCycle (inv_endCycle ((inv_timerCycle hi).setHold _)) take)

/-- One step of the machine keeps the invariant. -/
theorem inv_step (hi : s.Inv) {t : State} (h : step s = .next t) : t.Inv :=
  step_keeps (P := State.Inv) (fun _ m rest hi => hi.accept m rest) (fun _ _ hi hs => hs.inv hi)
    (fun _ _ _ hother hdrain hi hx => hi.exec_other hother hdrain hx) (fun _ take hi => hi.cycle take) hi h

/-- A run of the machine keeps the invariant. -/
theorem State.Inv.reach (hi : s.Inv) {t : State} (h : Reach s t) : t.Inv := by
  induction h with
  | refl => exact hi
  | step _ hs ih => exact inv_step ih hs

end

/-! ### Reset -/

theorem memRead_reset (i : Pos) : State.reset.memRead i = Config.bpFill := by
  simp [State.memRead, State.reset]

theorem attached_reset (q : Pin) : State.reset.attached q = false := by
  simp [State.attached, State.reset]

/-- After reset nothing is attached, the store is full and the timer is off, so each part of the invariant holds,
whatever the unspecified registers hold (R25). -/
theorem inv_reset : State.reset.Inv where
  unattached := fun q _ _ i => by rw [State.storeBit, memRead_reset, bpFill_getLsbD]
  attachedPacket := fun q hq => absurd ((attached_reset q).symm.trans hq) (by simp)
  slots := ⟨fun q hq => absurd ((attached_reset q).symm.trans hq) (by simp), nofun⟩
  command := by simp [State.CommandFits, State.reset]
  flags := by simp [State.FlagsFit, State.reset]
  timer := nofun
  drain := nofun

end Sys2Proof.Machine

namespace Sys2Proof.Proofs
open Sys2Proof Sys2Proof.Machine

/-- Settles O53: a step is made of atomic host changes, steps of the other agents and clock cycles (`step_keeps`), and
each of them keeps the invariant. -/
theorem stepKeepsTheInvariant : Obligations.StepKeepsTheInvariant := fun _ _ hi h => inv_step hi h

/-- Settles O52. -/
theorem resetMeetsTheInvariant : Obligations.ResetMeetsTheInvariant := inv_reset

/-- Settles O54: the moves scheduled after reset are no part of the invariant, every step keeps it, and R22 is one of
its parts. -/
theorem neverAttachedReadsOne : Obligations.NeverAttachedReadsOne := by
  intro moves t hrun
  have hstart : (State.reset.setSched moves).Inv :=
    inv_congr inv_reset rfl rfl rfl rfl rfl rfl rfl rfl rfl rfl rfl id
  exact (hstart.reach hrun).unattached

/-- Settles O12: the table is read off the definition of reset. -/
theorem resetValues : Obligations.ResetValues :=
  ⟨memRead_reset, rfl, rfl, fun p => by simp [State.reset], rfl, rfl, rfl, rfl, rfl, rfl⟩

end Sys2Proof.Proofs
end

section
/-! PROOFS. What the steps of the machine never undo: an attachment, the running timer, and that a valid response is
seen in READY only (R11, R12, R20). -/

namespace Sys2Proof.Machine

/-- Pin `p` is attached for good: the timer runs, so that no ATTACH stands before AT_SETUP, the one step that
detaches. -/
def State.HoldsAttached (p : Pin) (s : State) : Prop :=
  s.attached p = true ∧ s.timerActive = true ∧ s.hst ≠ .setup

/-- Under the invariant a pin that is attached is attached for good. -/
theorem State.Inv.holdsAttached {s : State} {p : Pin} (hi : s.Inv) (hp : s.attached p = true) :
    s.HoldsAttached p := by
  have hon := hi.timerActive_of_attached hp
  exact ⟨hp, hon, fun hsetup => absurd (hon.symm.trans (hi.timerOff_of_setup hsetup)) (by simp)⟩

theorem HostStep.holdsAttached {s t : State} {p : Pin} (h : HostStep s t) (hs : s.HoldsAttached p) :
    t.HoldsAttached p := by
  obtain ⟨hp, hon, hne⟩ := hs
  cases h with
  | consume => exact ⟨hp, hon, hne⟩
  | issueAttach _ _ => exact ⟨hp, hon, by simp [hon]⟩
  | atSetup hhst _ => exact absurd hhst hne
  | atReg _ => exact ⟨by simp [hp], hon, nofun⟩
  | _ => exact ⟨hp, hon, nofun⟩

/-- The timer is switched on by AT_SETUP and off by nothing. -/
theorem HostStep.timerActive {s t : State} (h : HostStep s t) (hs : s.timerActive = true) :
    t.timerActive = true := by
  cases h with
  | atSetup _ _ => rfl
  | _ => exact hs

/-- R20, R152: the response is valid in READY only. -/
def State.ResponseFits (s : State) : Prop := s.rspValid = true → s.hst = .ready

/-- ISSUE takes the response back and leaves READY; the other micro-steps either end in READY or start in a stage in
which the response is not valid. -/
theorem HostStep.responseFits {s t : State} (h : HostStep s t) (hs : s.ResponseFits) : t.ResponseFits := by
  intro hvalid
  cases h with
  | consume => exact hs hvalid
  | issueAttach | issueSetThrottle | issueEncode => cases hvalid
  | atSetup hhst _ | atInit hhst | stLatch hhst | stUpd hhst _ => cases hhst.symm.trans (hs hvalid)
  | atReg | stUpdLast | encExec => rfl

end Sys2Proof.Machine

namespace Sys2Proof.Proofs
open Sys2Proof Sys2Proof.Machine

/-- Settles O49: attached for good is a property of the host's mode that every host step keeps. -/
theorem attachedBitsNeverFall : Obligations.AttachedBitsNeverFall := by
  intro s t p hi h hp
  have hkept : t.HoldsAttached p := by
    refine step_keeps_mode (P := State.HoldsAttached p) ?_ (fun _ _ hs hstep => hstep.holdsAttached hs)
      (hi.holdsAttached hp) h
    rintro u v ⟨hatt, hon, hhst, -⟩ ⟨hp, hrun, hne⟩
    exact ⟨(attached_congr hatt p).trans hp, hon.trans hrun, hhst ▸ hne⟩
  exact hkept.1

/-- Settles O50. -/
theorem timerNeverStops : Obligations.TimerNeverStops := by
  intro s t h hs
  refine step_keeps_mode (P := fun u => u.timerActive = true) ?_ (fun _ _ hu hstep => hstep.timerActive hu) hs h
  rintro u v ⟨-, hon, -, -⟩ hu
  exact hon.trans hu

/-- Settles O51. -/
theorem responseValidOnlyWhenReady : Obligations.ResponseValidOnlyWhenReady := by
  refine ⟨fun s t hs h => ?_, fun s n hvalid => by simp [State.readRsp, hvalid]⟩
  refine step_keeps_mode (P := State.ResponseFits) ?_ (fun _ _ hu hstep => hstep.responseFits hu) hs h
  rintro u v ⟨-, -, hhst, hvalid⟩ hu hv
  exact hhst.trans (hu (hvalid.symm.trans hv))

end Sys2Proof.Proofs
end

section
/-! PROOFS. Which steps write the state the agents share (R10, R11, R13, R14, R30), and that the transmitter and the
timer do not depend on the channel file (R115). -/

namespace Sys2Proof.Machine

/-! PORT is the transmitter's and the environment's (R14). -/

theorem HostStep.port {s t : State} (h : HostStep s t) : t.port = s.port := by
  cases h <;> rfl

theorem HostRun.port {s t : State} (h : HostRun s t) : t.port = s.port :=
  HostRun.keeps (P := fun u => u.port = s.port) (fun _ _ hu hstep => hstep.port.trans hu) h rfl

/-! What the steps inside the whole commands leave of the shared state. -/

/-- ISSUE latches its operands and writes nothing the agents share (R80). -/
theorem issueWord_frame {w : CmdWord} {s t : State} (h : issueWord w s = .next t) :
    t.bitPlane = s.bitPlane ∧ t.attachedPins = s.attachedPins ∧ t.chan = s.chan := by
  obtain ⟨-, -, ⟨p, -, -, rfl⟩ | ⟨p, v, -, -, rfl⟩ | ⟨v, -, rfl⟩⟩ := issueWord_next h <;> exact ⟨rfl, rfl, rfl⟩

theorem execIssue_frame {s t : State} (h : execIssue s = .next t) :
    t.bitPlane = s.bitPlane ∧ t.attachedPins = s.attachedPins ∧ t.chan = s.chan := by
  obtain ⟨w, -, hw⟩ := execIssue_next h
  have hframe := issueWord_frame hw
  exact hframe

/-- ST_UPD writes the store and no other shared state (R87). -/
theorem execStUpd_frame {i : Pos} {s t : State} (h : execStUpd i s = .next t) :
    t.attachedPins = s.attachedPins ∧ t.chan = s.chan := by
  obtain ⟨-, -, rfl⟩ := execStUpd_next h
  obtain ⟨j, -, e⟩ | ⟨-, e⟩ := advanceUpd_cases i (s.memWrite i (updatedEntry s i)) <;>
    exact e ▸ ⟨rfl, rfl⟩

/-- SET_THROTTLE attaches and detaches nothing (R85). -/
theorem execSetThrottle_attachedPins {p : Pin} {v : Throttle} {s t : State}
    (h : execSetThrottle p v s = .next t) : t.attachedPins = s.attachedPins := by
  obtain ⟨a, b, hissue, hlatch, hupd⟩ := execSetThrottle_next h
  obtain ⟨-, hab, -⟩ := issueWord_frame hissue
  obtain ⟨-, -, hb⟩ := execStLatch_next hlatch
  have hbs : b.attachedPins = s.attachedPins := hb ▸ hab
  exact forEach_keeps (f := execStUpd) (P := fun u => u.attachedPins = s.attachedPins)
    (fun _ _ _ hu hx => (execStUpd_frame hx).1.trans hu) _ _ _ hbs hupd

/-- ENCODE writes nothing the agents share (R88). -/
theorem execEncode_frame {v : Throttle} {s t : State} (h : execEncode v s = .next t) :
    t.bitPlane = s.bitPlane ∧ t.attachedPins = s.attachedPins ∧ t.chan = s.chan := by
  obtain ⟨a, hissue, henc⟩ := andThen_eq_next.1 h
  obtain ⟨-, -, rfl⟩ := execEncExec_next henc
  have hframe := issueWord_frame hissue
  exact hframe

/-! The writers of each of the four, by the steps that leave it alone. -/

section
variable {i : Instr} {s t : State}

/-- R10, R30. -/
theorem exec_store_writer (h : exec i s = .next t) (hne : t.bitPlane ≠ s.bitPlane) :
    i = .atSetup ∨ i = .atInit ∨ (∃ k, i = .stUpd k) ∨ (∃ p, i = .attach p) ∨ ∃ p v, i = .setThrottle p v := by
  cases i with
  | atSetup | atInit | stUpd k | attach p | setThrottle p v => simp
  | encode v => exact absurd (execEncode_frame h).1 hne
  | issue => exact absurd (execIssue_frame h).1 hne
  | atReg => obtain ⟨-, -, rfl⟩ := execAtReg_next h; exact absurd rfl hne
  | stLatch => obtain ⟨-, -, rfl⟩ := execStLatch_next h; exact absurd rfl hne
  | encExec => obtain ⟨-, -, rfl⟩ := execEncExec_next h; exact absurd rfl hne
  | txStart | txHigh | txData | txLow | timerMatch | envPort => exact absurd (exec_sameHost rfl h).1 hne

/-- R11. -/
theorem exec_attachedPins_writer (h : exec i s = .next t) (hne : t.attachedPins ≠ s.attachedPins) :
    i = .atSetup ∨ i = .atReg ∨ ∃ p, i = .attach p := by
  cases i with
  | atSetup | atReg | attach p => simp
  | setThrottle p v => exact absurd (execSetThrottle_attachedPins h) hne
  | encode v => exact absurd (execEncode_frame h).2.1 hne
  | issue => exact absurd (execIssue_frame h).2.1 hne
  | atInit => obtain ⟨-, -, rfl⟩ := execAtInit_next h; exact absurd rfl hne
  | stLatch => obtain ⟨-, -, rfl⟩ := execStLatch_next h; exact absurd rfl hne
  | stUpd k => exact absurd (execStUpd_frame h).1 hne
  | encExec => obtain ⟨-, -, rfl⟩ := execEncExec_next h; exact absurd rfl hne
  | txStart | txHigh | txData | txLow | timerMatch | envPort => exact absurd (exec_sameHost rfl h).2.2.1 hne

/-- R13. -/
theorem exec_chan_writer (h : exec i s = .next t) (hne : t.chan ≠ s.chan) :
    i = .atInit ∨ i = .stLatch ∨ (∃ p, i = .attach p) ∨ ∃ p v, i = .setThrottle p v := by
  cases i with
  | atInit | stLatch | attach p | setThrottle p v => simp
  | encode v => exact absurd (execEncode_frame h).2.2 hne
  | issue => exact absurd (execIssue_frame h).2.2 hne
  | atSetup => obtain ⟨-, -, rfl⟩ := execAtSetup_next h; exact absurd rfl hne
  | atReg => obtain ⟨-, -, rfl⟩ := execAtReg_next h; exact absurd rfl hne
  | stUpd k => exact absurd (execStUpd_frame h).2 hne
  | encExec => obtain ⟨-, -, rfl⟩ := execEncExec_next h; exact absurd rfl hne
  | txStart | txHigh | txData | txLow | timerMatch | envPort => exact absurd (exec_sameHost rfl h).2.1 hne

/-- R14. -/
theorem exec_port_writer (h : exec i s = .next t) (hne : t.port ≠ s.port) :
    (∃ k, i = .txHigh k) ∨ (∃ k, i = .txData k) ∨ (∃ k, i = .txLow k) ∨ ∃ v, i = .envPort v := by
  cases hi : isHostStep i with
  | true => exact absurd (exec_hostRun hi h).port hne
  | false =>
    cases i with
    | txHigh k | txData k | txLow k | envPort v => simp
    | txStart => obtain ⟨-, -, -, rfl⟩ := execTxStart_next h; exact absurd rfl hne
    | timerMatch => obtain ⟨-, rfl⟩ := execTimerMatch_next h; exact absurd rfl hne
    | attach | setThrottle | encode | issue | atSetup | atInit | atReg | stLatch | stUpd | encExec => cases hi

end

/-! The channel file replaced (R115). -/

/-- The state with other contents of the channel file. -/
def State.withChan (c : Vector (Option Channel) 8) (s : State) : State := { s with chan := c }

/-- A step whose condition and effect do not read the channel file answers the same with other contents of it. -/
theorem whenEnabled_withChan {b : Bool} {name : String} {s' t : State} (c : Vector (Option Channel) 8)
    (h : whenEnabled b name s' = .next t) : whenEnabled b name (s'.withChan c) = .next (t.withChan c) := by
  obtain ⟨hb, rfl⟩ := whenEnabled_next.1 h
  exact whenEnabled_next.2 ⟨hb, rfl⟩

theorem txLowAdvance_withChan (i : Pos) (s : State) (c : Vector (Option Channel) 8) :
    txLowAdvance i (s.withChan c) = (txLowAdvance i s).withChan c := by
  unfold txLowAdvance
  cases nextPos i <;> rfl

end Sys2Proof.Machine

namespace Sys2Proof.Proofs
open Sys2Proof Sys2Proof.Machine

/-- Settles O47. -/
theorem writersOfSharedState : Obligations.WritersOfSharedState :=
  fun _ _ _ h => ⟨exec_store_writer h, exec_attachedPins_writer h, exec_chan_writer h, exec_port_writer h⟩

/-- Settles O46: replacing the channel file passes through the condition and the effect of each of the five steps. -/
theorem transmitterIgnoresTheChannelFile : Obligations.TransmitterIgnoresTheChannelFile := by
  intro s t i c hi h
  change exec i (s.withChan c) = .next (t.withChan c)
  cases i with
  | txStart | txHigh k | txData k | timerMatch => exact whenEnabled_withChan c h
  | txLow k =>
    have heffect : txLowAdvance k (txLowPort (s.withChan c)) = (txLowAdvance k (txLowPort s)).withChan c :=
      txLowAdvance_withChan k (txLowPort s) c
    change whenEnabled (s.txAt (.low k)) "TX_LOW" (txLowAdvance k (txLowPort (s.withChan c))) = _
    rw [heffect]
    exact whenEnabled_withChan c h
  | attach | setThrottle | encode | issue | atSetup | atInit | atReg | stLatch | stUpd | encExec | envPort => cases hi

end Sys2Proof.Proofs
end

section
/-! PROOFS. A step of the machine is the meaning of the step its word decodes to (R38); during a transmission no step
of the host or the environment is enabled (R38, R125); and a SET_THROTTLE in stage S_UPD finishes (R41, R87). -/

namespace Sys2Proof.Machine

/-! ### The step of a move that reads a word (R38, R50) -/

theorem step_of_sched {s : State} {m : Move} {rest : List Move} (h : s.sched = m :: rest) :
    step s = (s.accept m rest).perform m := by
  simp only [step, h]

theorem perform_of_fetch {s : State} {m : Move} {w : FetchWord} (h : s.fetch m = some w) :
    s.perform m = s.runWord w := by
  simp only [State.perform, h]

theorem runWord_of_decode {w : FetchWord} {i : Instr} (h : decode w = .ok i) (s : State) :
    s.runWord w = exec i s := by
  simp only [State.runWord, h]

/-! ### Who may move during a transmission (R38 item 1, R125) -/

theorem issueWord_seq_idle {w : CmdWord} {s t : State} (h : issueWord w s = .next t) : s.seq = .idle :=
  (issueWord_next h).2.1

/-- A step of the host is enabled in IDLE only; a whole command is, since its ISSUE is. -/
theorem seq_idle_of_hostStep {i : Instr} {s t : State} (hi : isHostStep i = true) (h : exec i s = .next t) :
    s.seq = .idle := by
  cases i with
  | attach p => obtain ⟨a, b, c, hissue, -⟩ := execAttach_next h; exact issueWord_seq_idle hissue
  | setThrottle p v => obtain ⟨a, b, hissue, -⟩ := execSetThrottle_next h; exact issueWord_seq_idle hissue
  | encode v => obtain ⟨a, hissue, -⟩ := andThen_eq_next.1 h; exact issueWord_seq_idle hissue
  | issue =>
    obtain ⟨w, -, hissue⟩ := execIssue_next h
    have hidle := issueWord_seq_idle hissue
    exact hidle
  | atSetup => exact (execAtSetup_next h).2.1
  | atInit => exact (execAtInit_next h).2.1
  | atReg => exact (execAtReg_next h).2.1
  | stLatch => exact (execStLatch_next h).2.1
  | stUpd k => exact (execStUpd_next h).2.1
  | encExec => exact (execEncExec_next h).2.1
  | txStart | txHigh | txData | txLow | timerMatch | envPort => cases hi

/-- The handler's steps are those that are neither the host's nor the environment's. -/
theorem isHandlerStep_iff (i : Instr) : isHandlerStep i = true ↔ isHostStep i = false ∧ ∀ v, i ≠ .envPort v := by
  cases i <;> simp [isHandlerStep, isHostStep]

theorem isHandlerStep_of_seq_ne_idle {i : Instr} {s t : State} (hseq : s.seq ≠ .idle) (h : exec i s = .next t) :
    isHandlerStep i = true := by
  refine (isHandlerStep_iff i).2 ⟨Bool.eq_false_iff.2 fun hi => hseq (seq_idle_of_hostStep hi h), ?_⟩
  rintro v rfl
  exact hseq (execEnvPort_next h).1

/-! ### The updates that a SET_THROTTLE has still to make (R41, R87) -/

theorem forEach_map {α β : Type} (f : β → State → Host.Outcome State Fault Refusal) (g : α → β) (l : List α)
    (s : State) : forEach f (l.map g) s = forEach (fun a => f (g a)) l s := by
  induction l generalizing s with
  | nil => rfl
  | cons a l ih => rw [List.map_cons, forEach_cons, forEach_cons, funext ih]

theorem execAll_stUpd (l : List Pos) (s : State) : execAll (l.map .stUpd) s = forEach execStUpd l s :=
  forEach_map exec .stUpd l s

/-- ST_UPD(`k`) where it is enabled. -/
theorem execStUpd_enabled {s : State} {k : Pos} (hhst : s.hst = .upd k) (hidle : s.seq = .idle) :
    execStUpd k s = .next (advanceUpd k (s.memWrite k (updatedEntry s k))) :=
  whenEnabled_next.2 ⟨(hostAt_iff _ _).2 ⟨hhst, hidle⟩, rfl⟩

theorem execStUpd_below {s : State} {k j : Pos} (hhst : s.hst = .upd k) (hidle : s.seq = .idle)
    (hj : nextPos k = some j) :
    execStUpd k s = .next ((s.memWrite k (updatedEntry s k)).setHst (.upd j)) := by
  simp only [execStUpd_enabled hhst hidle, advanceUpd, hj]

theorem execStUpd_last {s : State} (hhst : s.hst = .upd 15) (hidle : s.seq = .idle) :
    execStUpd 15 s = .next (((s.memWrite 15 (updatedEntry s 15)).respond (s.packet s.cmdPin)).setHst .ready) :=
  execStUpd_enabled hhst hidle

/-- What the updates of the positions from `k` on leave of `s`: the packet in column `cmd_pin` from `k` on, the
response, and the rest as it was. -/
def State.UpdatedFrom (s : State) (k : Pos) (t : State) : Prop :=
  t = { s with bitPlane := t.bitPlane, hst := .ready, rsp := s.packet s.cmdPin, rspValid := true } ∧
    ∀ (i : Pos) (q : Pin), t.storeBit i q =
      if q = s.cmdPin ∧ k ≤ i then frameBit (s.packet s.cmdPin) i else s.storeBit i q

/-- Position 15 is the last of the updates. -/
theorem updatedFrom_last (s : State) :
    s.UpdatedFrom 15 (((s.memWrite 15 (updatedEntry s 15)).respond (s.packet s.cmdPin)).setHst .ready) := by
  refine ⟨rfl, fun i q => (storeBit_update s 15 i q).trans ?_⟩
  have hlast : 15 ≤ i ↔ i = 15 := Fin.last_le_iff
  by_cases hi : i = 15
  · subst hi; simp
  · simp [hlast, hi]

/-- The update of position `k`, then those from the position after it on. -/
theorem updatedFrom_of_next {s t : State} {k j : Pos} (hj : nextPos k = some j)
    (h : ((s.memWrite k (updatedEntry s k)).setHst (.upd j)).UpdatedFrom j t) : s.UpdatedFrom k t := by
  obtain ⟨hframe, hbit⟩ := h
  refine ⟨hframe, fun i q => (hbit i q).trans ?_⟩
  have hafter : j ≤ i ↔ k ≤ i ∧ i ≠ k := by
    have hval := nextPos_some hj
    simp only [Fin.le_def, ne_eq, Fin.ext_iff]
    omega
  change (if q = s.cmdPin ∧ j ≤ i then frameBit (s.packet s.cmdPin) i
    else (s.memWrite k (updatedEntry s k)).storeBit i q) = _
  rw [storeBit_update]
  by_cases hi : i = k
  · subst hi
    simp [hafter, and_comm]
  · simp [hafter, hi]

theorem nextPos_castSucc (k : Fin 15) : nextPos k.castSucc = some k.succ := nextPos_of_lt k.isLt

theorem positions_drop_castSucc (k : Fin 15) :
    positions.drop k.castSucc = k.castSucc :: positions.drop k.succ := by
  revert k; decide

/-- From stage S_UPD at `k` the updates from `k` on all run. The induction goes down from the last position: the
update of a position hands over to those after it. -/
theorem forEach_execStUpd_drop (k : Pos) (s : State) (hhst : s.hst = .upd k) (hidle : s.seq = .idle) :
    ∃ t, forEach execStUpd (positions.drop k) s = .next t ∧ s.UpdatedFrom k t := by
  induction k using Fin.reverseInduction generalizing s with
  | last =>
    refine ⟨_, ?_, updatedFrom_last s⟩
    change forEach execStUpd [15] s = _
    rw [forEach_cons, execStUpd_last hhst hidle, andThen_next, forEach_nil]
  | cast k ih =>
    have hj := nextPos_castSucc k
    obtain ⟨t, hrun, ht⟩ := ih ((s.memWrite k.castSucc (updatedEntry s k.castSucc)).setHst (.upd k.succ)) rfl hidle
    refine ⟨t, ?_, updatedFrom_of_next hj ht⟩
    rw [positions_drop_castSucc, forEach_cons, execStUpd_below hhst hidle hj]
    exact hrun

end Sys2Proof.Machine

namespace Sys2Proof.Proofs
open Sys2Proof Sys2Proof.Machine

/-- Settles O40: what answers in the handler is neither the host's nor the environment's, and the other steps leave the
host's side as it was (`exec_sameHost`). -/
theorem transmissionIsNotDisturbed : Obligations.TransmissionIsNotDisturbed := by
  intro s t i hseq h
  have hhandler := isHandlerStep_of_seq_ne_idle hseq h
  obtain ⟨hstore, hchan, hatt, hhst, hpin, hthr, hrsp, hvalid, -⟩ :=
    exec_sameHost ((isHandlerStep_iff i).1 hhandler).1 h
  exact ⟨hhandler, hstore, hchan, hatt, hhst, hpin, hthr, hrsp, hvalid⟩

/-- Settles O55: the updates from `k` on all run, and `UpdatedFrom` says what they leave. -/
theorem updateFinishes : Obligations.UpdateFinishes := by
  intro s k hhst hidle
  obtain ⟨t, hrun, hframe, hbit⟩ := forEach_execStUpd_drop k s hhst hidle
  refine ⟨t, (execAll_stUpd _ s).trans hrun, ?_, ?_, ?_, hbit⟩ <;> rw [hframe]

/-- Settles O7: the move is taken off the list, its word fetched and decoded, and the step decoded run. -/
theorem stepRunsTheDecodedStep : Obligations.StepRunsTheDecodedStep := by
  intro s m rest w i hsched hfetch hdecode
  calc step s = (s.accept m rest).perform m := step_of_sched hsched
    _ = (s.accept m rest).runWord w := perform_of_fetch hfetch
    _ = exec i (s.accept m rest) := runWord_of_decode hdecode _

end Sys2Proof.Proofs
end

section
/-! PROOFS. The words of the five formats (R50 to R57). A word is its fields one after the other, a row's match and mask
is a condition on them, and a decoder answers a step exactly for that step's own word. -/

namespace Sys2Proof

/-! ### Fields of a word -/

section
variable {n k : Nat}

theorem append_eq_append_iff {a c : BitVec n} {b d : BitVec k} : a ++ b = c ++ d ↔ a = c ∧ b = d := by
  constructor
  · intro h
    have hhigh := congrArg (BitVec.extractLsb' k n) h
    have hlow := congrArg (BitVec.extractLsb' 0 k) h
    simp only [BitVec.extractLsb'_append_eq_left] at hhigh
    simp only [BitVec.extractLsb'_append_eq_right] at hlow
    exact ⟨hhigh, hlow⟩
  · rintro ⟨rfl, rfl⟩
    rfl

/-- A mask over the high field tests that field: the word is the field's value, then its own low field. -/
theorem append_low_of_and_high {w : BitVec (n + k)} {a : BitVec n}
    (h : w &&& (BitVec.allOnes n ++ 0#k) = a ++ 0#k) : a ++ w.extractLsb' 0 k = w := by
  rw [← BitVec.extractLsb'_append_extractLsb' (x := w), BitVec.and_append, append_eq_append_iff,
    BitVec.and_allOnes] at h
  rw [← h.1, BitVec.extractLsb'_append_extractLsb']

end

/-! ### Command words by their fields (R50, R52) -/

section
variable (op : BitVec 2) (p : Pin) (t : Throttle) (v : BitVec 2)

@[simp] theorem cmdWord_op : (cmdWord op p t).extractLsb' 14 2 = op := by
  rw [cmdWord, BitVec.extractLsb'_append_eq_of_le (by omega)]
  exact BitVec.extractLsb'_append_eq_left

@[simp] theorem cmdWord_pin : (cmdWord op p t).extractLsb' 11 3 = BitVec.ofFin p := by
  rw [cmdWord, BitVec.extractLsb'_append_eq_of_le (by omega)]
  exact BitVec.extractLsb'_append_eq_right

@[simp] theorem cmdPinField_cmdWord : cmdPinField (cmdWord op p t) = p := by
  rw [cmdPinField, cmdWord_pin]

@[simp] theorem cmdThrField_cmdWord : cmdThrField (cmdWord op p t) = t := BitVec.extractLsb'_append_eq_right

/-- Every command word is its three fields: none of its bits lies outside them. -/
theorem cmdWord_fields (w : CmdWord) : cmdWord (w.extractLsb' 14 2) (cmdPinField w) (cmdThrField w) = w := by
  have hhigh : w.extractLsb' 14 2 ++ w.extractLsb' 11 3 = w.extractLsb' 11 5 :=
    BitVec.extractLsb'_append_extractLsb'_eq_extractLsb' rfl
  change (w.extractLsb' 14 2 ++ w.extractLsb' 11 3) ++ w.extractLsb' 0 11 = w
  rw [hhigh]
  exact BitVec.extractLsb'_append_extractLsb'

theorem exists_cmdWord (w : CmdWord) : ∃ op p t, cmdWord op p t = w := ⟨_, _, _, cmdWord_fields w⟩

theorem pinField_inj {p p' : Pin} : (BitVec.ofFin p : BitVec 3) = BitVec.ofFin p' ↔ p = p' :=
  ⟨congrArg BitVec.toFin, fun h => h ▸ rfl⟩

theorem cmdWord_inj {op op' : BitVec 2} {p p' : Pin} {t t' : Throttle} :
    cmdWord op p t = cmdWord op' p' t' ↔ op = op' ∧ p = p' ∧ t = t' := by
  rw [cmdWord, cmdWord, append_eq_append_iff, append_eq_append_iff, pinField_inj, and_assoc]

/-! A match and mask of R51 is a condition on the fields. -/

theorem cmdWord_and (m : BitVec 2) (n : BitVec 3) (k : BitVec 11) :
    cmdWord op p t &&& ((m ++ n) ++ k) = ((op &&& m) ++ (BitVec.ofFin p &&& n)) ++ (t &&& k) := by
  rw [cmdWord, BitVec.and_append, BitVec.and_append]

theorem cmdWord_and_op : cmdWord op p t &&& 0xC000 = cmdWord v 0 0 ↔ op = v := by
  have hmask : cmdWord op p t &&& 0xC000 = cmdWord op 0 0 :=
    (cmdWord_and op p t (BitVec.allOnes 2) 0#3 0#11).trans <| by
      rw [BitVec.and_allOnes, BitVec.and_zero, BitVec.and_zero]; rfl
  rw [hmask, cmdWord_inj]
  simp

theorem cmdWord_and_op_pin : cmdWord op p t &&& 0xF800 = cmdWord v 0 0 ↔ op = v ∧ p = 0 := by
  have hmask : cmdWord op p t &&& 0xF800 = cmdWord op p 0 :=
    (cmdWord_and op p t (BitVec.allOnes 2) (BitVec.allOnes 3) 0#11).trans <| by
      rw [BitVec.and_allOnes, BitVec.and_allOnes, BitVec.and_zero]; rfl
  rw [hmask, cmdWord_inj]
  simp

theorem cmdWord_and_op_thr : cmdWord op p t &&& 0xC7FF = cmdWord v 0 0 ↔ op = v ∧ t = 0 := by
  have hmask : cmdWord op p t &&& 0xC7FF = cmdWord op 0 t :=
    (cmdWord_and op p t (BitVec.allOnes 2) 0#3 (BitVec.allOnes 11)).trans <| by
      rw [BitVec.and_allOnes, BitVec.and_allOnes, BitVec.and_zero]; rfl
  rw [hmask, cmdWord_inj]
  simp

/-- The decoder of command words, by the fields (R51 to R54). -/
theorem decodeCmd_cmdWord : decodeCmd (cmdWord op p t) =
    if op = 0b01 ∧ t = 0 then .ok (.attach p)
    else if op = 0b10 then .ok (.setThrottle p t)
    else if op = 0b11 ∧ p = 0 then .ok (.encode t)
    else if op = 0b00 then .error .opZero
    else if op = 0b01 then .error .attachThrottle
    else .error .encodePin := by
  unfold decodeCmd
  rw [cmdPinField_cmdWord, cmdThrField_cmdWord]
  exact if_congr (cmdWord_and_op_thr op p t 0b01) rfl <| if_congr (cmdWord_and_op op p t 0b10) rfl <|
    if_congr (cmdWord_and_op_pin op p t 0b11) rfl <| if_congr (cmdWord_and_op op p t 0b00) rfl <|
    if_congr (cmdWord_and_op op p t 0b01) rfl rfl

end

/-! ### The decoder of command words is the inverse of the encoder (R51, R53) -/

/-- The word the encoder writes for a command (`encode_command`). -/
def Command.word : Command → CmdWord
  | .attach p => cmdWord 0b01 p 0
  | .setThrottle p t => cmdWord 0b10 p t
  | .encode t => cmdWord 0b11 0 t

theorem encode_command (c : Command) : encode c.instr = .cmd16 c.word := by
  cases c <;> rfl

@[simp] theorem decodeCmd_word (c : Command) : decodeCmd c.word = .ok c := by
  cases c with
  | attach p => exact decodeCmd_cmdWord 0b01 p 0
  | setThrottle p t => exact decodeCmd_cmdWord 0b10 p t
  | encode t => exact decodeCmd_cmdWord 0b11 0 t

theorem word_of_decodeCmd {w : CmdWord} {c : Command} (h : decodeCmd w = .ok c) : c.word = w := by
  obtain ⟨op, p, t, rfl⟩ := exists_cmdWord w
  rw [decodeCmd_cmdWord] at h
  split_ifs at h with hattach hset hencode
  · obtain ⟨rfl, rfl⟩ := hattach
    cases h; rfl
  · subst hset
    cases h; rfl
  · obtain ⟨rfl, rfl⟩ := hencode
    cases h; rfl

/-- The reserved command words by their fields (R54). -/
theorem decodeCmd_error_iff (op : BitVec 2) (p : Pin) (t : Throttle) :
    (∃ e, decodeCmd (cmdWord op p t) = .error e) ↔ op = 0b00 ∨ (op = 0b01 ∧ t ≠ 0) ∨ (op = 0b11 ∧ p ≠ 0) := by
  have hop : op = 0b00 ∨ op = 0b01 ∨ op = 0b10 ∨ op = 0b11 := by
    revert op; decide
  rw [decodeCmd_cmdWord]
  obtain rfl | rfl | rfl | rfl := hop
  · simp
  · by_cases ht : t = 0#11 <;> simp [ht]
  · simp
  · by_cases hp : p = 0 <;> simp [hp]

theorem decode_cmd16_eq_ok {w : CmdWord} {i : Instr} :
    decode (.cmd16 w) = .ok i ↔ ∃ c, decodeCmd w = .ok c ∧ c.instr = i := by
  change (decodeCmd w).map Command.instr = .ok i ↔ _
  cases decodeCmd w <;> simp [Except.map]

/-! ### Assembler lines (R60) -/

theorem Line.wf_attach (p : Nat) : (Line.attach p).wf = true ↔ p < 8 := decide_eq_true_iff

theorem Line.wf_setThrottle (p t : Nat) : (Line.setThrottle p t).wf = true ↔ p < 8 ∧ t < 2048 := by
  simp only [Line.wf, Bool.and_eq_true, decide_eq_true_eq]

theorem Line.wf_encode (t : Nat) : (Line.encode t).wf = true ↔ t < 2048 := decide_eq_true_iff

end Sys2Proof

namespace Sys2Proof.Machine

/-! ### The two sequencers and their words (R55, R56) -/

/-- The host micro-step `hst` names (R16). -/
def Hst.instr : Hst → Instr
  | .ready => .issue
  | .setup => .atSetup
  | .init => .atInit
  | .reg => .atReg
  | .latch => .stLatch
  | .upd i => .stUpd i
  | .enc => .encExec

/-- The transmitter micro-operation `seq` names (R15). -/
def Seq.instr : Seq → Instr
  | .idle => .txStart
  | .high i => .txHigh i
  | .data i => .txData i
  | .low i => .txLow i

theorem encode_hst (h : Hst) : encode h.instr = .hst7 h.toBits := by
  cases h <;> rfl

theorem encode_seq (q : Seq) : encode q.instr = .seq6 q.toBits := by
  cases q <;> rfl

/-- The decoder of HST7 reads the value of `hst` and answers the step it names. -/
theorem decodeHst_eq_ok {w : BitVec 7} {i : Instr} :
    decodeHst w = .ok i ↔ ∃ h, Hst.ofBits w = some h ∧ h.instr = i := by
  unfold decodeHst Hst.ofBits
  split_ifs <;> simp [Hst.instr]

/-- The decoder of SEQ6 reads the value of `seq` and answers the step it names. -/
theorem decodeSeq_eq_ok {w : BitVec 6} {i : Instr} :
    decodeSeq w = .ok i ↔ ∃ q, Seq.ofBits w = some q ∧ q.instr = i := by
  unfold decodeSeq Seq.ofBits
  split_ifs <;> simp [Seq.instr]

@[simp] theorem Hst.ofBits_toBits (h : Hst) : Hst.ofBits h.toBits = some h := by
  cases h with
  | upd i => revert i; decide
  | ready | setup | init | reg | latch | enc => rfl

@[simp] theorem Seq.ofBits_toBits (q : Seq) : Seq.ofBits q.toBits = some q := by
  cases q with
  | high i | data i | low i => revert i; decide
  | idle => rfl

theorem Hst.toBits_of_ofBits {w : BitVec 7} {h : Hst} (hw : Hst.ofBits w = some h) : h.toBits = w := by
  unfold Hst.ofBits at hw
  split_ifs at hw with hready hsetup hinit hreg hlatch hupd henc
  · cases hw; exact hready.symm
  · cases hw; exact hsetup.symm
  · cases hw; exact hinit.symm
  · cases hw; exact hreg.symm
  · cases hw; exact hlatch.symm
  · cases hw; exact append_low_of_and_high (n := 3) (k := 4) hupd
  · cases hw; exact henc.symm

theorem Seq.toBits_of_ofBits {w : BitVec 6} {q : Seq} (hw : Seq.ofBits w = some q) : q.toBits = w := by
  unfold Seq.ofBits at hw
  split_ifs at hw with hidle hhigh hdata hlow
  · cases hw; exact hidle.symm
  · cases hw; exact append_low_of_and_high (n := 2) (k := 4) hhigh
  · cases hw; exact append_low_of_and_high (n := 2) (k := 4) hdata
  · cases hw; exact append_low_of_and_high (n := 2) (k := 4) hlow

/-! ### The decoder of the five formats -/

theorem decode_hst7_toBits (h : Hst) : decode (.hst7 h.toBits) = .ok h.instr :=
  decodeHst_eq_ok.2 ⟨h, h.ofBits_toBits, rfl⟩

theorem decode_seq6_toBits (q : Seq) : decode (.seq6 q.toBits) = .ok q.instr :=
  decodeSeq_eq_ok.2 ⟨q, q.ofBits_toBits, rfl⟩

theorem decode_cmd16_of_decodeCmd {w : CmdWord} {c : Command} (h : decodeCmd w = .ok c) :
    decode (.cmd16 w) = .ok c.instr :=
  decode_cmd16_eq_ok.2 ⟨c, h, rfl⟩

/-- A word that is the encoding of a step decodes to it, and to no other: each step is a command's, one that `hst` or
`seq` names, or an event's. -/
theorem decode_encode (i : Instr) : decode (encode i) = .ok i := by
  cases i with
  | attach p => exact decode_cmd16_of_decodeCmd (decodeCmd_word (.attach p))
  | setThrottle p t => exact decode_cmd16_of_decodeCmd (decodeCmd_word (.setThrottle p t))
  | encode t => exact decode_cmd16_of_decodeCmd (decodeCmd_word (.encode t))
  | issue => exact decode_hst7_toBits .ready
  | atSetup => exact decode_hst7_toBits .setup
  | atInit => exact decode_hst7_toBits .init
  | atReg => exact decode_hst7_toBits .reg
  | stLatch => exact decode_hst7_toBits .latch
  | stUpd k => exact decode_hst7_toBits (.upd k)
  | encExec => exact decode_hst7_toBits .enc
  | txStart => exact decode_seq6_toBits .idle
  | txHigh k => exact decode_seq6_toBits (.high k)
  | txData k => exact decode_seq6_toBits (.data k)
  | txLow k => exact decode_seq6_toBits (.low k)
  | timerMatch | envPort v => rfl

theorem encode_of_decode {w : FetchWord} {i : Instr} (h : decode w = .ok i) : encode i = w := by
  cases w with
  | cmd16 w =>
    obtain ⟨c, hc, rfl⟩ := decode_cmd16_eq_ok.1 h
    rw [encode_command, word_of_decodeCmd hc]
  | hst7 w =>
    obtain ⟨q, hq, rfl⟩ := decodeHst_eq_ok.1 h
    rw [encode_hst, Hst.toBits_of_ofBits hq]
  | seq6 w =>
    obtain ⟨q, hq, rfl⟩ := decodeSeq_eq_ok.1 h
    rw [encode_seq, Seq.toBits_of_ofBits hq]
  | evt1 w =>
    replace h : (if w = 1 then Except.ok Instr.timerMatch else .error Reserved.noMatch) = .ok i := h
    split_ifs at h with hw
    cases h
    rw [hw]; rfl
  | env8 v => cases h; rfl

/-! ### The words of the opcode table's rows (R54, R58)

A decoder is a chain of tests. It answers a step where one of the tests of its rows holds, and `wf` is the disjunction
of these tests. -/

section
variable {α ε : Type} {c : Prop} [Decidable c]

theorem exists_ok_ite {a : α} {d : Except ε α} : (∃ x, (if c then .ok a else d) = .ok x) ↔ c ∨ ∃ x, d = .ok x := by
  split_ifs with h <;> simp [h]

theorem not_exists_ok_error {e : ε} : ¬∃ x : α, Except.error e = .ok x := by simp

theorem not_exists_ok_ite_error {e : ε} {d : Except ε α} (hd : ¬∃ x, d = .ok x) :
    ¬∃ x, (if c then .error e else d) = .ok x := by
  by_cases h : c
  · rw [if_pos h]
    exact not_exists_ok_error
  · rwa [if_neg h]

end

theorem exists_decode_cmd16 (w : CmdWord) : (∃ i, decode (.cmd16 w) = .ok i) ↔ ∃ c, decodeCmd w = .ok c := by
  simp [decode_cmd16_eq_ok]

theorem decodeCmd_ok_iff_wf (w : CmdWord) : (∃ c, decodeCmd w = .ok c) ↔ (FetchWord.cmd16 w).wf = true := by
  have hrest := not_exists_ok_ite_error (c := w &&& 0xC000 = 0x0000) (e := .opZero) <|
    not_exists_ok_ite_error (c := w &&& 0xC000 = 0x4000) (e := .attachThrottle) <|
    not_exists_ok_error (α := Command) (e := Reserved.encodePin)
  simp only [decodeCmd, exists_ok_ite, hrest, FetchWord.wf, Bool.or_eq_true, beq_iff_eq, or_false, or_assoc]

theorem decodeHst_ok_iff_wf (w : BitVec 7) : (∃ i, decodeHst w = .ok i) ↔ (FetchWord.hst7 w).wf = true := by
  have hrest := not_exists_ok_ite_error (c := w &&& 0x70 = 0x70) (e := .hstStage) <|
    not_exists_ok_error (α := Instr) (e := Reserved.hstIdx)
  simp only [decodeHst, exists_ok_ite, hrest, FetchWord.wf, Bool.or_eq_true, beq_iff_eq, or_false, or_assoc]

theorem decodeSeq_ok_iff_wf (w : BitVec 6) : (∃ i, decodeSeq w = .ok i) ↔ (FetchWord.seq6 w).wf = true := by
  simp only [decodeSeq, exists_ok_ite, not_exists_ok_error, FetchWord.wf, Bool.or_eq_true, beq_iff_eq, or_false,
    or_assoc]

theorem decode_evt1_ok_iff_wf (w : BitVec 1) : (∃ i, decode (.evt1 w) = .ok i) ↔ (FetchWord.evt1 w).wf = true := by
  simp only [decode, exists_ok_ite, not_exists_ok_error, FetchWord.wf, beq_iff_eq, or_false]

/-- ISSUE of a reserved word, where it is enabled (R54, R80). -/
theorem issueWord_reserved {w : CmdWord} {e : Reserved} {s : State} (hready : s.cmdReady = true)
    (he : decodeCmd w = .error e) : issueWord w s = .refused (.reservedEncoding e) := by
  simp only [issueWord, hready, he, if_true]

/-- ISSUE reads the word on the command port and consumes it (R80). -/
theorem execIssue_of_cmd {s : State} {w : CmdWord} (h : s.cmd = some w) :
    execIssue s = issueWord w (s.setCmd none) := by
  simp only [execIssue, h]

end Sys2Proof.Machine

namespace Sys2Proof.Proofs
open Sys2Proof Sys2Proof.Machine

/-- Settles O1. -/
theorem decodeOfEncode : Obligations.DecodeOfEncode := decode_encode

/-- Settles O2. -/
theorem encodeOfDecode : Obligations.EncodeOfDecode := fun _ _ h => encode_of_decode h

/-- Settles O3, format by format. -/
theorem decodesExactlyTheTableRows : Obligations.DecodesExactlyTheTableRows := by
  intro w
  cases w with
  | cmd16 w => exact (exists_decode_cmd16 w).trans (decodeCmd_ok_iff_wf w)
  | hst7 w => exact decodeHst_ok_iff_wf w
  | seq6 w => exact decodeSeq_ok_iff_wf w
  | evt1 w => exact decode_evt1_ok_iff_wf w
  | env8 v => exact ⟨fun _ => rfl, fun _ => ⟨_, rfl⟩⟩

/-- Settles O4: the word is taken apart into its fields, by which the decoder rejects it. -/
theorem reservedCommandWordsAreRefused : Obligations.ReservedCommandWordsAreRefused := by
  intro w
  refine ⟨?_, fun s e hhst hidle hcmd he => ?_⟩
  · obtain ⟨op, p, t, rfl⟩ := exists_cmdWord w
    have hpin : (BitVec.ofFin p : BitVec 3) ≠ 0 ↔ p ≠ 0 := not_congr (pinField_inj (p' := 0))
    have hthr : (cmdWord op p t).extractLsb' 0 11 = t := cmdThrField_cmdWord op p t
    rw [decodeCmd_error_iff, cmdWord_op, cmdWord_pin, hthr, hpin]
  · have hready : (s.setCmd none).cmdReady = true := (cmdReady_iff _).2 ⟨hhst, hidle⟩
    exact (execIssue_of_cmd hcmd).trans (issueWord_reserved hready he)

/-- Settles O11. -/
theorem sequencersAreTheirWords : Obligations.SequencersAreTheirWords :=
  ⟨Hst.ofBits_toBits, Seq.ofBits_toBits, fun _ _ => Hst.toBits_of_ofBits, fun _ _ => Seq.toBits_of_ofBits⟩

/-- Settles O5: each word is the encoding of its step, field by field. -/
theorem tableWordsDecode : Obligations.TableWordsDecode :=
  ⟨decode_encode (.attach 2), decode_encode (.setThrottle 2 1046), decode_encode (.encode 2047), decode_encode .atInit,
    decode_encode (.stUpd 9), decode_encode (.txHigh 4), decode_encode (.txData 11), decode_encode .timerMatch,
    decode_encode (.envPort 0x7E)⟩

/-- Settles O6: a line is assembled where its operands are in range (`Line.wf`), and only there. -/
theorem outOfRangeOperandsDoNotAssemble : Obligations.OutOfRangeOperandsDoNotAssemble := fun _ p t =>
  ⟨if_congr (Line.wf_attach p) rfl rfl, if_congr (Line.wf_setThrottle p t) rfl rfl, if_congr (Line.wf_encode t) rfl rfl⟩

/-- Settles O8. -/
theorem eachAgentReadsItsOwnWord : Obligations.EachAgentReadsItsOwnWord :=
  fun _ _ => ⟨fun _ => ⟨rfl, rfl⟩, fun _ => ⟨rfl, rfl⟩, ⟨rfl, rfl⟩, ⟨rfl, rfl⟩, ⟨rfl, rfl⟩, fun _ => ⟨rfl, rfl⟩⟩

end Sys2Proof.Proofs
end

section
/-! PROOFS. A whole command is its micro-steps (R61, R81, R85, R88): the run of ISSUE and the host's moves, taken one
move at a time, goes through the states the expansion of the command goes through. -/

namespace Sys2Proof.Machine

/-! ### One move of a run (R38, R50, R55) -/

theorem run_succ_of_next {s t : State} (n : Nat) (h : step s = .next t) : core.run (n + 1) s = core.run n t := by
  have hcore : core.step s = .next t := h
  simp only [Host.Core.run, hcore]

/-- A run of one step is that step. -/
theorem run_one (s : State) : core.run 1 s = step s := by
  change core.run 1 s = core.step s
  simp only [Host.Core.run]
  cases core.step s <;> rfl

section
variable {s t : State} {rest : List Move}

/-- The host's move makes the micro-step `hst` names. -/
theorem step_host (hsched : s.sched = .host :: rest) : step s = exec s.hst.instr (s.setSched rest) :=
  Proofs.stepRunsTheDecodedStep s .host rest _ _ hsched rfl (decode_hst7_toBits s.hst)

/-- The host's write to the command port is ISSUE of the word written. -/
theorem step_issue {w : CmdWord} (hsched : s.sched = .issue w :: rest) :
    step s = issueWord w ((s.setSched rest).setCmd none) :=
  Proofs.stepRunsTheDecodedStep s (.issue w) rest _ _ hsched rfl (decode_hst7_toBits .ready)

theorem step_command {c : Command} (hsched : s.sched = .command c.word :: rest) :
    step s = exec c.instr (s.setSched rest) :=
  Proofs.stepRunsTheDecodedStep s (.command c.word) rest _ _ hsched rfl (decode_cmd16_of_decodeCmd (decodeCmd_word c))

/-- The one move that runs a command whole. -/
theorem run_command (c : Command) (s : State) :
    core.run 1 (s.setSched [.command c.word]) = exec c.instr (s.setSched []) :=
  (run_one _).trans (step_command rfl)

end

/-! ### The micro-steps where they are enabled -/

/-- ISSUE of a decoded command: the three cases of R80 (`issueWord_of_decodeCmd`). -/
def issueCommand : Command → State → Host.Outcome State Fault Refusal
  | .attach p => issueAttach p
  | .setThrottle p v => issueSetThrottle p v
  | .encode v => issueEncode v

section
variable {s : State}

theorem issueWord_of_decodeCmd {w : CmdWord} {c : Command} (hhst : s.hst = .ready) (hidle : s.seq = .idle)
    (hdecode : decodeCmd w = .ok c) : issueWord w s = issueCommand c s := by
  have hready : s.cmdReady = true := (cmdReady_iff s).2 ⟨hhst, hidle⟩
  cases c <;> simp only [issueWord, hready, hdecode, issueCommand, if_true]

theorem issueWord_word_attach {p : Pin} {h : Hst} (hhst : s.hst = .ready) (hidle : s.seq = .idle)
    (hp : s.attached p = false) (hstage : (if s.timerActive then Hst.init else .setup) = h) :
    issueWord (cmdWord 0b01 p 0) s = .next ((s.latchPin p).setHst h) := by
  subst hstage
  exact (issueWord_of_decodeCmd hhst hidle (decodeCmd_word (.attach p))).trans (if_neg (Bool.eq_false_iff.1 hp))

theorem issueWord_word_setThrottle {p : Pin} {v : Throttle} (hhst : s.hst = .ready) (hidle : s.seq = .idle)
    (hp : s.attached p = true) :
    issueWord (cmdWord 0b10 p v) s = .next (((s.latchPin p).latchThrottle v).setHst .latch) :=
  (issueWord_of_decodeCmd hhst hidle (decodeCmd_word (.setThrottle p v))).trans (if_pos hp)

theorem issueWord_word_encode {v : Throttle} (hhst : s.hst = .ready) (hidle : s.seq = .idle) :
    issueWord (cmdWord 0b11 0 v) s = .next (((s.latchPin 0).latchThrottle v).setHst .enc) :=
  issueWord_of_decodeCmd hhst hidle (decodeCmd_word (.encode v))

theorem whenEnabled_hostAt {h : Hst} {name : String} {s' : State} (hhst : s.hst = h) (hidle : s.seq = .idle) :
    whenEnabled (s.hostAt h) name s' = .next s' :=
  whenEnabled_next.2 ⟨(hostAt_iff s h).2 ⟨hhst, hidle⟩, rfl⟩

theorem execAtSetup_enabled (hhst : s.hst = .setup) (hidle : s.seq = .idle) :
    execAtSetup s = .next ((s.fillStore.detachAll.armTimer).setHst .init) := whenEnabled_hostAt hhst hidle

theorem execAtInit_enabled (hhst : s.hst = .init) (hidle : s.seq = .idle) :
    execAtInit s = .next (((s.setChannel s.cmdPin 0 0).clearColumn s.cmdPin).setHst .reg) :=
  whenEnabled_hostAt hhst hidle

theorem execStLatch_enabled (hhst : s.hst = .latch) (hidle : s.seq = .idle) :
    execStLatch s = .next ((s.setChannel s.cmdPin s.cmdThr (encodeFrame s.cmdThr)).setHst (.upd 0)) :=
  whenEnabled_hostAt hhst hidle

end

/-! ### The host's moves from each stage on, against the rest of the expansion -/

theorem andThen_assoc (o : Host.Outcome State Fault Refusal) (f g : State → Host.Outcome State Fault Refusal) :
    andThen (andThen o f) g = andThen o fun t => andThen (f t) g := by
  cases o <;> rfl

section
variable {s : State}

theorem run_host_last {h : Hst} (hhst : s.hst = h) :
    core.run 1 (s.setSched [.host]) = exec h.instr (s.setSched []) := by
  subst hhst
  exact (run_one _).trans (step_host rfl)

/-- A host's move and the moves after it run as the micro-step and the rest of the expansion. The micro-step neither
reads nor writes the list of moves (`hexec`), so the two sides meet in the same state `t`. -/
theorem run_host_andThen {h : Hst} {n : Nat} {rest : List Move} {f : State → Host.Outcome State Fault Refusal}
    (t : State) (hhst : s.hst = h) (hexec : ∀ l, exec h.instr (s.setSched l) = .next (t.setSched l))
    (hrest : core.run n (t.setSched rest) = f (t.setSched [])) :
    core.run (n + 1) (s.setSched (.host :: rest)) = andThen (exec h.instr (s.setSched [])) f := by
  subst hhst
  rw [hexec, andThen_next, ← hrest]
  exact run_succ_of_next n ((step_host rfl).trans (hexec rest))

/-- The same for the host's write of a command word: ISSUE consumes the word. -/
theorem run_issue_andThen {w : CmdWord} {n : Nat} {rest : List Move} {f : State → Host.Outcome State Fault Refusal}
    (t : State) (hissue : ∀ l, issueWord w ((s.setCmd none).setSched l) = .next (t.setSched l))
    (hrest : core.run n (t.setSched rest) = f (t.setSched [])) :
    core.run (n + 1) (s.setSched (.issue w :: rest)) = andThen (issueWord w ((s.setCmd none).setSched [])) f := by
  rw [hissue, andThen_next, ← hrest]
  exact run_succ_of_next n ((step_issue rfl).trans (hissue rest))

theorem run_from_init (hhst : s.hst = .init) (hidle : s.seq = .idle) :
    core.run 2 (s.setSched [.host, .host]) = andThen (execAtInit (s.setSched [])) execAtReg :=
  run_host_andThen (((s.setChannel s.cmdPin 0 0).clearColumn s.cmdPin).setHst .reg) hhst
    (fun _ => execAtInit_enabled hhst hidle) (run_host_last rfl)

theorem run_from_setup (hhst : s.hst = .setup) (hidle : s.seq = .idle) :
    core.run 3 (s.setSched [.host, .host, .host]) =
      andThen (execAtSetup (s.setSched [])) fun t => andThen (execAtInit t) execAtReg :=
  run_host_andThen ((s.fillStore.detachAll.armTimer).setHst .init) hhst
    (fun _ => execAtSetup_enabled hhst hidle) (run_from_init rfl hidle)

theorem run_from_upd (k : Pos) (s : State) (hhst : s.hst = .upd k) (hidle : s.seq = .idle) :
    core.run (16 - k) (s.setSched (List.replicate (16 - k) .host)) =
      forEach execStUpd (positions.drop k) (s.setSched []) := by
  induction k using Fin.reverseInduction generalizing s with
  | last =>
    exact run_host_andThen (((s.memWrite 15 (updatedEntry s 15)).respond (s.packet s.cmdPin)).setHst .ready) hhst
      (fun _ => execStUpd_last hhst hidle) rfl
  | cast k ih =>
    have hj := nextPos_castSucc k
    have hlen : 16 - (k.castSucc : Nat) = (16 - k.succ) + 1 := by
      simp only [Fin.val_castSucc, Fin.val_succ]
      omega
    rw [hlen, List.replicate_succ, positions_drop_castSucc, forEach_cons]
    exact run_host_andThen ((s.memWrite k.castSucc (updatedEntry s k.castSucc)).setHst (.upd k.succ)) hhst
      (fun _ => execStUpd_below hhst hidle hj) (ih _ rfl hidle)

theorem run_from_latch (hhst : s.hst = .latch) (hidle : s.seq = .idle) :
    core.run 17 (s.setSched (List.replicate 17 .host)) =
      andThen (execStLatch (s.setSched [])) (forEach execStUpd positions) :=
  run_host_andThen ((s.setChannel s.cmdPin s.cmdThr (encodeFrame s.cmdThr)).setHst (.upd 0)) hhst
    (fun _ => execStLatch_enabled hhst hidle) (run_from_upd 0 _ rfl hidle)

/-! ### The three commands -/

/-- ATTACH (R81), its expansion grouped from the right, as a run takes it. -/
theorem execAttach_eq (p : Pin) (s : State) :
    execAttach p s = andThen (issueWord (cmdWord 0b01 p 0) s) fun t =>
      andThen (setupIfNeeded t) fun u => andThen (execAtInit u) execAtReg := by
  simp only [execAttach, andThen_assoc]

theorem execSetThrottle_eq (p : Pin) (v : Throttle) (s : State) :
    execSetThrottle p v s = andThen (issueWord (cmdWord 0b10 p v) s) fun t =>
      andThen (execStLatch t) (forEach execStUpd positions) := by
  simp only [execSetThrottle, andThen_assoc]

theorem setupIfNeeded_setup (h : s.hst = .setup) : setupIfNeeded s = execAtSetup s := if_pos h

theorem setupIfNeeded_init (h : s.hst = .init) : setupIfNeeded s = .next s :=
  if_neg (by rw [h]; exact Hst.noConfusion)

section
variable (hhst : s.hst = .ready) (hidle : s.seq = .idle)
include hhst hidle

theorem run_attach_armed {p : Pin} (hp : s.attached p = false) (hon : s.timerActive = true) :
    core.run 3 (s.setSched (.issue (cmdWord 0b01 p 0) :: List.replicate 2 .host)) =
      execAttach p ((s.setCmd none).setSched []) := by
  rw [execAttach_eq]
  refine run_issue_andThen (((s.setCmd none).latchPin p).setHst .init)
    (fun _ => issueWord_word_attach hhst hidle hp (if_pos hon)) ?_
  rw [setupIfNeeded_init rfl]
  exact run_from_init rfl hidle

theorem run_attach_idle {p : Pin} (hp : s.attached p = false) (hoff : ¬s.timerActive = true) :
    core.run 4 (s.setSched (.issue (cmdWord 0b01 p 0) :: List.replicate 3 .host)) =
      execAttach p ((s.setCmd none).setSched []) := by
  rw [execAttach_eq]
  refine run_issue_andThen (((s.setCmd none).latchPin p).setHst .setup)
    (fun _ => issueWord_word_attach hhst hidle hp (if_neg hoff)) ?_
  rw [setupIfNeeded_setup rfl]
  exact run_from_setup rfl hidle

theorem run_setThrottle {p : Pin} (v : Throttle) (hp : s.attached p = true) :
    core.run 18 (s.setSched (.issue (cmdWord 0b10 p v) :: List.replicate 17 .host)) =
      execSetThrottle p v ((s.setCmd none).setSched []) := by
  rw [execSetThrottle_eq]
  exact run_issue_andThen ((((s.setCmd none).latchPin p).latchThrottle v).setHst .latch)
    (fun _ => issueWord_word_setThrottle hhst hidle hp) (run_from_latch rfl hidle)

theorem run_encode (v : Throttle) :
    core.run 2 (s.setSched [.issue (cmdWord 0b11 0 v), .host]) = execEncode v ((s.setCmd none).setSched []) :=
  run_issue_andThen ((((s.setCmd none).latchPin 0).latchThrottle v).setHst .enc)
    (fun _ => issueWord_word_encode hhst hidle) (run_host_last rfl)

end

end

end Sys2Proof.Machine

namespace Sys2Proof.Proofs
open Sys2Proof Sys2Proof.Machine

/-- Settles O30: the moves of each command run as its expansion, which is what the one move of the whole runs. -/
theorem commandIsItsMicroSteps : Obligations.CommandIsItsMicroSteps := by
  intro s p v hhst hidle
  refine ⟨fun hp => ?_, fun hp => ?_, ?_⟩
  · have hwhole := run_command (.attach p) (s.setCmd none)
    split_ifs with hon
    · exact (run_attach_armed hhst hidle hp hon).trans hwhole.symm
    · exact (run_attach_idle hhst hidle hp hon).trans hwhole.symm
  · exact (run_setThrottle hhst hidle v hp).trans (run_command (.setThrottle p v) (s.setCmd none)).symm
  · exact (run_encode hhst hidle v).trans (run_command (.encode v) (s.setCmd none)).symm

end Sys2Proof.Proofs
end

section
/-! PROOFS. The packet encoder (R70 to R76). The frame is throttle, telemetry bit and checksum one after the other; what
the rules say of a frame is read off its three fields. -/

namespace Sys2Proof.Machine

/-! ### The two words of the encoder, `d` and the checksum (R70, R72) -/

theorem extractLsb'_ushiftRight {w : Nat} (x : BitVec w) (n k : Nat) :
    (x >>> n).extractLsb' 0 k = x.extractLsb' n k := by
  ext i hi
  simp

theorem and_000F (x : Frame) : x &&& 0x000F = (x.extractLsb' 0 4).setWidth 16 := by
  rw [BitVec.setWidth_eq_append (by decide), ← BitVec.setWidth_eq_extractLsb' (by decide)]
  exact BitVec.and_setWidth_allOnes 12 4 x

/-- The loop gathers whole shifted words, of which the mask keeps the low nibbles: the three nibbles of `d` (R72). -/
theorem checksumLoop_nibble (d : Frame) :
    (checksumLoop 3 0 d).extractLsb' 0 4 = d.extractLsb' 0 4 ^^^ d.extractLsb' 4 4 ^^^ d.extractLsb' 8 4 := by
  have hloop : checksumLoop 3 0 d = d ^^^ d >>> 4 ^^^ d >>> 8 := by
    rw [BitVec.shiftRight_add d 4 4]
    exact congrArg (· ^^^ d >>> 4 ^^^ d >>> 4 >>> 4) BitVec.zero_xor
  rw [hloop, BitVec.extractLsb'_xor, BitVec.extractLsb'_xor, extractLsb'_ushiftRight, extractLsb'_ushiftRight]

section
variable (t : Throttle)

/-- R70's `d`, sixteen bits wide, is R72's `d = {t, 0b0}`. -/
theorem zeroExtend_shiftLeft_one : t.zeroExtend 16 <<< 1 = (t ++ 0b0#1).setWidth 16 := by
  rw [BitVec.setWidth_append_eq_shiftLeft_setWidth_or, BitVec.setWidth_zero, BitVec.or_zero]

theorem shifted_getLsbD_zero : (t ++ 0b0#1).getLsbD 0 = false := BitVec.getLsbD_append

theorem shifted_getLsbD_succ (k : Nat) : (t ++ 0b0#1).getLsbD (k + 1) = t.getLsbD k := by
  rw [BitVec.getLsbD_append, if_neg (by omega), Nat.add_sub_cancel]

theorem checksumLoop_shifted : (checksumLoop 3 0 ((t ++ 0b0#1).setWidth 16)).extractLsb' 0 4 = checksum t := by
  rw [checksumLoop_nibble, BitVec.extractLsb'_setWidth_of_le (by decide),
    BitVec.extractLsb'_setWidth_of_le (by decide), BitVec.extractLsb'_setWidth_of_le (by decide), checksum]

theorem checksum_getLsbD (k : Fin 4) : (checksum t).getLsbD k =
    ((t ++ 0b0#1).getLsbD k ^^ (t ++ 0b0#1).getLsbD (k + 4) ^^ (t ++ 0b0#1).getLsbD (k + 8)) := by
  simp only [checksum, BitVec.getLsbD_xor, BitVec.getLsbD_extractLsb', k.isLt, decide_true, Bool.true_and,
    Nat.add_comm _ k.val, Nat.add_zero]

/-- R72 in terms of `t`, for the three bits above bit 0. -/
theorem checksum_getLsbD_succ (k : Fin 3) : (checksum t).getLsbD (k + 1) =
    (t.getLsbD k ^^ t.getLsbD (k + 4) ^^ t.getLsbD (k + 8)) := by
  have hbit := checksum_getLsbD t k.succ
  rwa [Fin.val_succ, Nat.add_right_comm k 1 4, Nat.add_right_comm k 1 8, shifted_getLsbD_succ, shifted_getLsbD_succ,
    shifted_getLsbD_succ] at hbit

theorem checksum_getLsbD_zero : (checksum t).getLsbD 0 = (t.getLsbD 3 ^^ t.getLsbD 7) :=
  calc (checksum t).getLsbD 0
    _ = ((t ++ 0b0#1).getLsbD 0 ^^ (t ++ 0b0#1).getLsbD (3 + 1) ^^ (t ++ 0b0#1).getLsbD (7 + 1)) :=
      checksum_getLsbD t 0
    _ = (t.getLsbD 3 ^^ t.getLsbD 7) := by
      rw [shifted_getLsbD_zero, shifted_getLsbD_succ, shifted_getLsbD_succ, Bool.false_xor]

/-! ### The frame is its three fields (R71) -/

theorem encodeFrame_eq : encodeFrame t = (t ++ 0b0#1) ++ checksum t :=
  calc encodeFrame t
    _ = (t ++ 0b0#1).setWidth 16 <<< 4 ||| (checksum t).setWidth 16 := by
      rw [encodeFrame, zeroExtend_shiftLeft_one, and_000F, checksumLoop_shifted]
    _ = (t ++ 0b0#1) ++ checksum t := by
      rw [← BitVec.setWidth_append_eq_shiftLeft_setWidth_or, BitVec.setWidth_eq]

theorem encodeFrame_getLsbD_of_lt {k : Nat} (hk : k < 4) : (encodeFrame t).getLsbD k = (checksum t).getLsbD k := by
  rw [encodeFrame_eq, BitVec.getLsbD_append, if_pos hk]

theorem encodeFrame_getLsbD_add_four (k : Nat) : (encodeFrame t).getLsbD (k + 4) = (t ++ 0b0#1).getLsbD k := by
  rw [encodeFrame_eq, BitVec.getLsbD_append, if_neg (by omega), Nat.add_sub_cancel]

theorem encodeFrame_telemetry : (encodeFrame t).getLsbD 4 = false :=
  (encodeFrame_getLsbD_add_four t 0).trans (shifted_getLsbD_zero t)

/-- R71 by store positions: position `i` carries frame bit `15 - i`. -/
theorem frameBit_encodeFrame (i : Pos) : frameBit (encodeFrame t) i =
    if (i : Nat) ≤ 10 then t.getLsbD (10 - i) else if (i : Nat) = 11 then false else (checksum t).getLsbD (15 - i) := by
  unfold frameBit
  split_ifs with hthrottle htelemetry
  · have hbit : 15 - (i : Nat) = 10 - i + 1 + 4 := by omega
    rw [hbit, encodeFrame_getLsbD_add_four, shifted_getLsbD_succ]
  · rw [htelemetry]
    exact encodeFrame_telemetry t
  · exact encodeFrame_getLsbD_of_lt t (by omega)

theorem encodeFrame_checksum : (encodeFrame t).extractLsb' 0 4 = checksum t := by
  rw [encodeFrame_eq, BitVec.extractLsb'_append_eq_right]

/-- Above the checksum the frame is `d = {t, 0b0}`. -/
theorem encodeFrame_extractLsb'_add_four (start len : Nat) :
    (encodeFrame t).extractLsb' (start + 4) len = (t ++ 0b0#1).extractLsb' start len := by
  rw [encodeFrame_eq, BitVec.extractLsb'_append_eq_of_le (Nat.le_add_left 4 start), Nat.add_sub_cancel]

theorem encodeFrame_throttle : (encodeFrame t).extractLsb' 5 11 = t :=
  (encodeFrame_extractLsb'_add_four t 1 11).trans BitVec.extractLsb'_append_eq_left

/-- R75 (d): the throttle is a field of the frame, so different throttles have different frames. -/
theorem encodeFrame_injective : Function.Injective encodeFrame :=
  Function.LeftInverse.injective encodeFrame_throttle

/-- R75 (e): the top three nibbles are those of `d`, and the checksum is their exclusive or. -/
theorem encodeFrame_nibble_parity :
    (encodeFrame t).extractLsb' 12 4 ^^^ (encodeFrame t).extractLsb' 8 4 ^^^ (encodeFrame t).extractLsb' 4 4 ^^^
      (encodeFrame t).extractLsb' 0 4 = 0 := by
  have hchecksum : checksum t =
      (t ++ 0b0#1).extractLsb' 8 4 ^^^ (t ++ 0b0#1).extractLsb' 4 4 ^^^ (t ++ 0b0#1).extractLsb' 0 4 := by
    rw [checksum, BitVec.xor_comm, BitVec.xor_comm ((t ++ 0b0#1).extractLsb' 0 4), BitVec.xor_assoc]
  rw [encodeFrame_extractLsb'_add_four t 8, encodeFrame_extractLsb'_add_four t 4,
    encodeFrame_extractLsb'_add_four t 0, encodeFrame_checksum, hchecksum]
  exact BitVec.xor_self

end

theorem encodeFrame_zero : encodeFrame 0 = 0 := by decide

end Sys2Proof.Machine

namespace Sys2Proof.Proofs
open Sys2Proof Sys2Proof.Machine

/-- Settles O13: the encoder's two words, shifted and masked, are the fields one after the other. -/
theorem frameLayout : Obligations.FrameLayout := fun t => ⟨encodeFrame_eq t, frameBit_encodeFrame t⟩

/-- Settles O14: the frame's low nibble is the checksum, whose bits are those of the three nibbles of `d`. -/
theorem checksumClosedForm : Obligations.ChecksumClosedForm := by
  intro t
  have hlow {k : Nat} (hk : k < 4) : (encodeFrame t).getLsbD k = (checksum t).getLsbD k :=
    encodeFrame_getLsbD_of_lt t hk
  exact ⟨encodeFrame_checksum t, fun k => (hlow k.isLt).trans (checksum_getLsbD t k),
    (hlow (by decide)).trans (checksum_getLsbD_zero t), (hlow (by decide)).trans (checksum_getLsbD_succ t 0),
    (hlow (by decide)).trans (checksum_getLsbD_succ t 1), (hlow (by decide)).trans (checksum_getLsbD_succ t 2)⟩

/-- Settles O15: each property is read off a field of the frame; the telemetry bit keeps it from being all ones. -/
theorem frameProperties : Obligations.FrameProperties := by
  intro t
  refine ⟨encodeFrame_checksum t, encodeFrame_telemetry t, encodeFrame_throttle t,
    fun u hu => encodeFrame_injective hu, encodeFrame_nibble_parity t, ?_, fun hones => ?_⟩
  · rw [← encodeFrame_zero, encodeFrame_injective.eq_iff]
  · have htelemetry := encodeFrame_telemetry t
    rw [hones] at htelemetry
    exact absurd htelemetry (by decide)

/-- Settles O16: the encoder evaluated on the three throttles of R76 and R70. -/
theorem workedFrames : Obligations.WorkedFrames := ⟨encodeFrame_zero, by decide, by decide⟩

end Sys2Proof.Proofs
end

section
/-! PROOFS. The host's micro-steps (R80, R82 to R84, R86 to R88): each makes its one effect where `hst` names it and no
transmission is in progress, and no step elsewhere. ISSUE by the command its word decodes to. -/

namespace Sys2Proof.Machine

section
variable {s : State}

/-- A micro-step of the host makes no step where `hst` does not name it or a transmission is in progress (R38). -/
theorem whenEnabled_hostAt_ne_next {h : Hst} {name : String} {s' : State} (hne : ¬(s.hst = h ∧ s.seq = .idle))
    (t : State) : whenEnabled (s.hostAt h) name s' ≠ .next t :=
  fun hnext => hne ((hostAt_iff s h).1 (whenEnabled_next.1 hnext).1)

theorem execAtReg_enabled (hhst : s.hst = .reg) (hidle : s.seq = .idle) :
    execAtReg s = .next ((s.register s.cmdPin).setHst .ready) := whenEnabled_hostAt hhst hidle

theorem execEncExec_enabled (hhst : s.hst = .enc) (hidle : s.seq = .idle) :
    execEncExec s = .next ((s.respond (encodeFrame s.cmdThr)).setHst .ready) := whenEnabled_hostAt hhst hidle

/-! ### AT_INIT and ST_UPD: what they leave of the store (R83, R87) -/

/-- A cleared column reads 0, the others as before, with the test of the pin as the statements write it. -/
theorem storeBit_clearColumn_ne (s : State) (p : Pin) (i : Pos) (q : Pin) :
    (s.clearColumn p).storeBit i q = (s.storeBit i q && decide (q ≠ p)) := by
  rw [storeBit_clearColumn, decide_not]

/-- What follows the write of ST_UPD(`i`), with position 15 told apart by its number: the fields it changes. -/
theorem advanceUpd_eq (i : Pos) (s : State) : advanceUpd i s = { s with
    hst := if h : (i : Nat) < 15 then .upd ⟨i + 1, by omega⟩ else .ready
    rsp := if (i : Nat) < 15 then s.rsp else s.packet s.cmdPin
    rspValid := if (i : Nat) < 15 then s.rspValid else true } := by
  unfold advanceUpd nextPos
  split_ifs <;> rfl

theorem advanceUpd_bitPlane (i : Pos) (s : State) : (advanceUpd i s).bitPlane = s.bitPlane := by
  rw [advanceUpd_eq]

/-! ### ISSUE by the command its word decodes to (R80) -/

theorem execIssue_of_decodeCmd {w : CmdWord} {c : Command} (hhst : s.hst = .ready) (hidle : s.seq = .idle)
    (hcmd : s.cmd = some w) (hdecode : decodeCmd w = .ok c) : execIssue s = issueCommand c (s.setCmd none) :=
  (execIssue_of_cmd hcmd).trans (issueWord_of_decodeCmd (s := s.setCmd none) hhst hidle hdecode)

/-- A word that no command is written as is reserved (R53). -/
theorem decodeCmd_error_of_ne_word {w : CmdWord} (h : ∀ c : Command, w ≠ c.word) : ∃ e, decodeCmd w = .error e := by
  cases hdecode : decodeCmd w with
  | ok c => exact absurd (word_of_decodeCmd hdecode).symm (h c)
  | error e => exact ⟨e, rfl⟩

/-- ISSUE makes a step only in READY, outside a transmission and with a word presented. -/
theorem execIssue_enabled {t : State} (h : execIssue s = .next t) :
    (s.hst = .ready ∧ s.seq = .idle) ∧ s.cmd ≠ none := by
  obtain ⟨w, hcmd, hissue⟩ := execIssue_next h
  obtain ⟨hhst, hidle, -⟩ := issueWord_next hissue
  exact ⟨⟨hhst, hidle⟩, by simp [hcmd]⟩

end

end Sys2Proof.Machine

namespace Sys2Proof.Proofs
open Sys2Proof Sys2Proof.Machine

/-- Settles O18. -/
theorem atSetupArms : Obligations.AtSetupArms :=
  ⟨decode_encode .atSetup, fun _ => ⟨execAtSetup_enabled, whenEnabled_hostAt_ne_next⟩⟩

/-- Settles O19: the store AT_INIT leaves has one column cleared. -/
theorem atInitClearsTheColumn : Obligations.AtInitClearsTheColumn :=
  ⟨decode_encode .atInit, fun s =>
    ⟨fun hhst hidle => ⟨_, execAtInit_enabled hhst hidle, rfl, storeBit_clearColumn_ne (s.setChannel s.cmdPin 0 0) _⟩,
      whenEnabled_hostAt_ne_next⟩⟩

/-- Settles O20. -/
theorem atRegRegisters : Obligations.AtRegRegisters :=
  ⟨decode_encode .atReg, fun _ => ⟨execAtReg_enabled, whenEnabled_hostAt_ne_next⟩⟩

/-- Settles O21. -/
theorem stLatchStoresTheFrame : Obligations.StLatchStoresTheFrame :=
  ⟨decode_encode .stLatch, fun _ => ⟨execStLatch_enabled, whenEnabled_hostAt_ne_next⟩⟩

/-- Settles O22: the write changes one bit of one entry (`storeBit_update`), and what follows it leaves the store. -/
theorem stUpdWritesOneBit : Obligations.StUpdWritesOneBit := by
  intro s i
  refine ⟨decode_encode (.stUpd i), fun hhst hidle => ?_, whenEnabled_hostAt_ne_next⟩
  have hstore := memRead_congr (advanceUpd_bitPlane i (s.memWrite i (updatedEntry s i)))
  refine ⟨_, execStUpd_enabled hhst hidle, ?_, fun j q => ?_, fun j hj => ?_⟩
  · rw [advanceUpd_eq]
    rfl
  · exact (storeBit_congr hstore j q).trans (storeBit_update s i j q)
  · exact (hstore j).trans (memRead_memWrite_other s _ hj.symm)

/-- Settles O23. -/
theorem encExecAnswers : Obligations.EncExecAnswers :=
  ⟨decode_encode .encExec, fun _ => ⟨execEncExec_enabled, whenEnabled_hostAt_ne_next⟩⟩

/-- Settles O17: ISSUE by the command the word decodes to; a word that is none of the three commands' is reserved. -/
theorem issueDispatches : Obligations.IssueDispatches := by
  refine ⟨decode_encode .issue, fun s => ⟨fun w hhst hidle hcmd => ⟨?_, ?_, ?_, ?_⟩, fun hne t h => ?_⟩⟩
  · rintro p rfl
    exact execIssue_of_decodeCmd hhst hidle hcmd (decodeCmd_word (.attach p))
  · rintro p t rfl
    exact execIssue_of_decodeCmd hhst hidle hcmd (decodeCmd_word (.setThrottle p t))
  · rintro t rfl
    exact execIssue_of_decodeCmd hhst hidle hcmd (decodeCmd_word (.encode t))
  · intro hset hattach hencode
    have hword (c : Command) : w ≠ c.word := by
      cases c with
      | attach p => exact hattach p
      | setThrottle p t => exact hset p t
      | encode t => exact hencode t
    obtain ⟨e, he⟩ := decodeCmd_error_of_ne_word hword
    have hready : (s.setCmd none).cmdReady = true := (cmdReady_iff _).2 ⟨hhst, hidle⟩
    exact ⟨e, (execIssue_of_cmd hcmd).trans (issueWord_reserved hready he)⟩
  · obtain ⟨hready, hcmd⟩ := execIssue_enabled h
    exact hne.elim (· hready) hcmd

end Sys2Proof.Proofs
end

section
/-! PROOFS. The whole commands (R61, R81, R85, R88): their net effects, where they are refused, and what follows of a
pin's column, of the other pins and of setup (R89 to R91). -/

namespace Sys2Proof.Machine

section
variable {s : State}

/-! ### Where a whole command runs, and where it is refused (R80, U2, U3) -/

/-- A whole command starts with ISSUE of its word. -/
theorem issueWord_of_command_next {c : Command} {t : State} (h : exec c.instr s = .next t) :
    ∃ u, issueWord c.word s = .next u := by
  cases c with
  | attach p =>
    obtain ⟨a, -, -, hissue, -⟩ := execAttach_next h
    exact ⟨a, hissue⟩
  | setThrottle p v =>
    obtain ⟨a, -, hissue, -⟩ := execSetThrottle_next h
    exact ⟨a, hissue⟩
  | encode v =>
    obtain ⟨a, hissue, -⟩ := andThen_eq_next.1 h
    exact ⟨a, hissue⟩

/-- A whole command runs only where `cmd_ready` is 1 (R50). -/
theorem ready_of_command_next {c : Command} {t : State} (h : exec c.instr s = .next t) :
    s.hst = .ready ∧ s.seq = .idle := by
  obtain ⟨u, hissue⟩ := issueWord_of_command_next h
  obtain ⟨hhst, hidle, -⟩ := issueWord_next hissue
  exact ⟨hhst, hidle⟩

theorem execAttach_of_refused {p : Pin} {r : Refusal} (h : issueWord (cmdWord 0b01 p 0) s = .refused r) :
    execAttach p s = .refused r := by
  rw [execAttach_eq, h, andThen_refused]

theorem execSetThrottle_of_refused {p : Pin} {v : Throttle} {r : Refusal}
    (h : issueWord (cmdWord 0b10 p v) s = .refused r) : execSetThrottle p v s = .refused r := by
  rw [execSetThrottle_eq, h, andThen_refused]

section
variable (hhst : s.hst = .ready) (hidle : s.seq = .idle)
include hhst hidle

theorem execAttach_attached {p : Pin} (hp : s.attached p = true) :
    execAttach p s = .refused .attachOfAttachedPin :=
  execAttach_of_refused ((issueWord_of_decodeCmd hhst hidle (decodeCmd_word (.attach p))).trans (if_pos hp))

theorem execSetThrottle_unattached {p : Pin} (v : Throttle) (hp : s.attached p = false) :
    execSetThrottle p v s = .refused .setThrottleBeforeAttach :=
  execSetThrottle_of_refused
    ((issueWord_of_decodeCmd hhst hidle (decodeCmd_word (.setThrottle p v))).trans (if_neg (Bool.eq_false_iff.1 hp)))

end

/-- ATTACH runs of a pin not attached only. -/
theorem execAttach_enabled {p : Pin} {t : State} (h : execAttach p s = .next t) :
    s.hst = .ready ∧ s.seq = .idle ∧ s.attached p = false := by
  obtain ⟨hhst, hidle⟩ := ready_of_command_next (c := .attach p) h
  refine ⟨hhst, hidle, Bool.eq_false_iff.2 fun hp => ?_⟩
  cases h.symm.trans (execAttach_attached hhst hidle hp)

/-- SET_THROTTLE runs of an attached pin only. -/
theorem execSetThrottle_enabled {p : Pin} {v : Throttle} {t : State} (h : execSetThrottle p v s = .next t) :
    s.hst = .ready ∧ s.seq = .idle ∧ s.attached p = true := by
  obtain ⟨hhst, hidle⟩ := ready_of_command_next (c := .setThrottle p v) h
  refine ⟨hhst, hidle, ?_⟩
  by_contra hp
  cases h.symm.trans (execSetThrottle_unattached hhst hidle v (Bool.eq_false_iff.2 hp))

/-! ### The net effects (R81, R85, R88) -/

/-- What AT_INIT and AT_REG leave together: the pin's slot and column at 0 and the pin registered (R83, R84). -/
def State.registerFresh (s : State) : State :=
  (((s.setChannel s.cmdPin 0 0).clearColumn s.cmdPin).register s.cmdPin).setHst .ready

theorem atInit_atReg (hhst : s.hst = .init) (hidle : s.seq = .idle) :
    andThen (execAtInit s) execAtReg = .next s.registerFresh := by
  rw [execAtInit_enabled hhst hidle, andThen_next]
  exact execAtReg_enabled rfl hidle

theorem storeBit_registerFresh (s : State) (i : Pos) (q : Pin) :
    s.registerFresh.storeBit i q = (s.storeBit i q && decide (q ≠ s.cmdPin)) :=
  storeBit_clearColumn_ne (s.setChannel s.cmdPin 0 0) s.cmdPin i q

theorem attached_registerFresh (s : State) : s.registerFresh.attached s.cmdPin = true := by
  simp [State.registerFresh]

/-- The state from which the sixteen updates of SET_THROTTLE start: pin and throttle latched, the frame in the pin's
slot (R80, R86). -/
def State.latchFrame (s : State) (p : Pin) (v : Throttle) : State :=
  (((s.latchPin p).latchThrottle v).setChannel p v (encodeFrame v)).setHst (.upd 0)

theorem packet_latchFrame (s : State) (p : Pin) (v : Throttle) :
    (s.latchFrame p v).packet (s.latchFrame p v).cmdPin = encodeFrame v :=
  packet_setChannel_same ((s.latchPin p).latchThrottle v) p v (encodeFrame v)

section
variable (hhst : s.hst = .ready) (hidle : s.seq = .idle)
include hhst hidle

/-- ATTACH with the timer running: ISSUE, AT_INIT, AT_REG (R81). -/
theorem execAttach_armed {p : Pin} (hp : s.attached p = false) (hon : s.timerActive = true) :
    execAttach p s = .next ((s.latchPin p).setHst .init).registerFresh := by
  rw [execAttach_eq, issueWord_word_attach hhst hidle hp (if_pos hon), andThen_next, setupIfNeeded_init rfl,
    andThen_next]
  exact atInit_atReg rfl hidle

/-- The first ATTACH: AT_SETUP comes between ISSUE and AT_INIT (R81, R92). -/
theorem execAttach_first {p : Pin} (hp : s.attached p = false) (hoff : s.timerActive = false) :
    execAttach p s = .next (((s.latchPin p).fillStore.detachAll.armTimer).setHst .init).registerFresh := by
  rw [execAttach_eq, issueWord_word_attach hhst hidle hp (if_neg (Bool.eq_false_iff.1 hoff)), andThen_next,
    setupIfNeeded_setup rfl, execAtSetup_enabled (s := (s.latchPin p).setHst .setup) rfl hidle, andThen_next]
  exact atInit_atReg rfl hidle

/-- ENCODE: ISSUE, ENC_EXEC (R88). -/
theorem execEncode_ready (v : Throttle) :
    execEncode v s = .next ((((s.latchPin 0).latchThrottle v).respond (encodeFrame v)).setHst .ready) := by
  rw [execEncode, issueWord_word_encode hhst hidle, andThen_next]
  exact execEncExec_enabled (s := ((s.latchPin 0).latchThrottle v).setHst .enc) rfl hidle

/-- SET_THROTTLE after ISSUE and ST_LATCH: the sixteen updates are left (R85). -/
theorem execSetThrottle_latched {p : Pin} (v : Throttle) (hp : s.attached p = true) :
    execSetThrottle p v s = forEach execStUpd positions (s.latchFrame p v) := by
  have hlatch : execStLatch (((s.latchPin p).latchThrottle v).setHst .latch) = .next (s.latchFrame p v) :=
    execStLatch_enabled rfl hidle
  rw [execSetThrottle_eq, issueWord_word_setThrottle hhst hidle hp, andThen_next, hlatch, andThen_next]

/-- SET_THROTTLE of an attached pin runs: its sixteen updates, from position 0 on (R85). -/
theorem execSetThrottle_updatedFrom {p : Pin} (v : Throttle) (hp : s.attached p = true) :
    ∃ t, execSetThrottle p v s = .next t ∧ (s.latchFrame p v).UpdatedFrom 0 t := by
  obtain ⟨t, hrun, ht⟩ := forEach_execStUpd_drop 0 (s.latchFrame p v) rfl hidle
  exact ⟨t, (execSetThrottle_latched hhst hidle v hp).trans hrun, ht⟩

/-- ATTACH of a pin not attached completes, whether the timer runs or not, and the pin is attached then (R81). -/
theorem execAttach_completes {p : Pin} (hp : s.attached p = false) :
    ∃ t, execAttach p s = .next t ∧ t.hst = .ready ∧ t.seq = .idle ∧ t.attached p = true := by
  cases htimer : s.timerActive with
  | true => exact ⟨_, execAttach_armed hhst hidle hp htimer, rfl, hidle, attached_registerFresh _⟩
  | false => exact ⟨_, execAttach_first hhst hidle hp htimer, rfl, hidle, attached_registerFresh _⟩

end

/-! ### Pin isolation (R90) -/

/-- What R90 protects of pin `a`: its column, its slot and its attachment. -/
def State.SamePin (a : Pin) (s t : State) : Prop :=
  (∀ k : Pos, t.storeBit k a = s.storeBit k a) ∧ t.chan[a] = s.chan[a] ∧ t.attached a = s.attached a

section
variable {a p : Pin} {t u : State}

theorem State.SamePin.trans (h : s.SamePin a t) (k : t.SamePin a u) : s.SamePin a u := by
  obtain ⟨hcol, hslot, hatt⟩ := h
  obtain ⟨kcol, kslot, katt⟩ := k
  exact ⟨fun i => (kcol i).trans (hcol i), kslot.trans hslot, katt.trans hatt⟩

/-- The three depend on the store, the channel file and `attached_pins` alone. -/
theorem samePin_of_eq (hstore : t.bitPlane = s.bitPlane) (hatt : t.attachedPins = s.attachedPins)
    (hchan : t.chan = s.chan) : s.SamePin a t :=
  ⟨fun k => storeBit_congr (memRead_congr hstore) k a, by rw [hchan], attached_congr hatt a⟩

/-! Each update of a pin's column, slot or attachment, seen from another pin. -/

theorem samePin_setChannel (hne : a ≠ p) (v : Throttle) (f : Frame) : s.SamePin a (s.setChannel p v f) :=
  ⟨fun _ => rfl, chan_setChannel_other s v f hne.symm, rfl⟩

theorem samePin_clearColumn (hne : a ≠ p) : s.SamePin a (s.clearColumn p) :=
  ⟨fun k => by simp [hne], rfl, rfl⟩

theorem samePin_register (hne : a ≠ p) : s.SamePin a (s.register p) :=
  ⟨fun _ => rfl, rfl, by simp [hne]⟩

theorem samePin_update (hne : a ≠ s.cmdPin) (i : Pos) : s.SamePin a (s.memWrite i (updatedEntry s i)) :=
  ⟨fun k => (storeBit_update s i k a).trans (if_neg fun e => hne e.2), rfl, rfl⟩

theorem samePin_initialized (hne : a ≠ p) : s.SamePin a ((s.setChannel p 0 0).clearColumn p) :=
  (samePin_setChannel hne 0 0).trans (samePin_clearColumn hne)

theorem samePin_registerFresh (hne : a ≠ s.cmdPin) : s.SamePin a s.registerFresh :=
  (samePin_initialized hne).trans
    (samePin_register (s := (s.setChannel s.cmdPin 0 0).clearColumn s.cmdPin) hne)

theorem samePin_of_updatedFrom {k : Pos} (hne : a ≠ s.cmdPin) (h : s.UpdatedFrom k t) : s.SamePin a t := by
  obtain ⟨hframe, hbit⟩ := h
  exact ⟨fun i => (hbit i a).trans (if_neg fun e => hne e.1), by rw [hframe], attached_congr (by rw [hframe]) a⟩

/-- ATTACH `p` with the timer running. -/
theorem execAttach_samePin (hne : a ≠ p) (hon : s.timerActive = true) (h : execAttach p s = .next t) :
    s.SamePin a t := by
  obtain ⟨hhst, hidle, hp⟩ := execAttach_enabled h
  cases h.symm.trans (execAttach_armed hhst hidle hp hon)
  exact samePin_registerFresh (s := (s.latchPin p).setHst .init) hne

theorem execSetThrottle_samePin {v : Throttle} (hne : a ≠ p) (h : execSetThrottle p v s = .next t) :
    s.SamePin a t := by
  obtain ⟨hhst, hidle, hp⟩ := execSetThrottle_enabled h
  obtain ⟨u, hu, hupd⟩ := execSetThrottle_updatedFrom hhst hidle v hp
  cases h.symm.trans hu
  have hlatch : s.SamePin a (s.latchFrame p v) := samePin_setChannel (s := s) hne v (encodeFrame v)
  exact hlatch.trans (samePin_of_updatedFrom hne hupd)

/-- Where the timer runs no ATTACH stands before AT_SETUP. -/
theorem State.Inv.hst_ne_setup (hi : s.Inv) (hon : s.timerActive = true) : s.hst ≠ .setup :=
  fun hsetup => absurd (hon.symm.trans (hi.timerOff_of_setup hsetup)) (by simp)

/-- R90, step by step: a step that acts on no pin writes nothing of any, and one that acts on a pin writes that pin's
column, slot and attachment only. AT_SETUP, which writes all of them, does not run with the timer on. -/
theorem exec_samePin {i : Instr} (hi : s.Inv) (hon : s.timerActive = true) (h : exec i s = .next t)
    (hother : actingPin i s ≠ some a) : s.SamePin a t := by
  have hne (p : Pin) (hp : actingPin i s = some p) : a ≠ p := fun e => hother (e ▸ hp)
  cases i with
  | attach p => exact execAttach_samePin (hne p rfl) hon h
  | setThrottle p v => exact execSetThrottle_samePin (hne p rfl) h
  | encode v =>
    obtain ⟨hstore, hatt, hchan⟩ := execEncode_frame h
    exact samePin_of_eq hstore hatt hchan
  | issue =>
    obtain ⟨hstore, hatt, hchan⟩ := execIssue_frame h
    exact samePin_of_eq hstore hatt hchan
  | atSetup => exact absurd (execAtSetup_next h).1 (hi.hst_ne_setup hon)
  | atInit =>
    obtain ⟨-, -, rfl⟩ := execAtInit_next h
    exact samePin_initialized (s := s) (hne _ rfl)
  | atReg =>
    obtain ⟨-, -, rfl⟩ := execAtReg_next h
    exact samePin_register (s := s) (hne _ rfl)
  | stLatch =>
    obtain ⟨-, -, rfl⟩ := execStLatch_next h
    exact samePin_setChannel (s := s) (hne _ rfl) _ _
  | stUpd k =>
    obtain ⟨-, -, rfl⟩ := execStUpd_next h
    rw [advanceUpd_eq]
    exact samePin_update (s := s) (hne _ rfl) k
  | encExec =>
    obtain ⟨-, -, rfl⟩ := execEncExec_next h
    exact samePin_of_eq rfl rfl rfl
  | txStart | txHigh | txData | txLow | timerMatch | envPort =>
    obtain ⟨hstore, hchan, hatt, -⟩ := exec_sameHost rfl h
    exact samePin_of_eq hstore hatt hchan

end

/-! ### Setup (R91) -/

theorem timerActive_of_reach {t : State} (h : Reach s t) (hon : s.timerActive = true) : t.timerActive = true := by
  induction h with
  | refl => exact hon
  | step _ hs ih => exact Proofs.timerNeverStops _ _ hs ih

end

end Sys2Proof.Machine

namespace Sys2Proof.Proofs
open Sys2Proof Sys2Proof.Machine

/-- Settles O28. -/
theorem commandsRefused : Obligations.CommandsRefused := by
  intro s p v
  refine ⟨fun hhst hidle hp => execAttach_attached hhst hidle hp,
    fun hhst hidle hp => execSetThrottle_unattached hhst hidle v hp, fun hne t => ?_⟩
  have hno (c : Command) : exec c.instr s ≠ .next t := fun h =>
    have ⟨hhst, hidle⟩ := ready_of_command_next h
    hne.elim (· hhst) (· hidle)
  exact ⟨hno (.attach p), hno (.setThrottle p v), hno (.encode v)⟩

/-- Settles O24. -/
theorem attachWhenArmed : Obligations.AttachWhenArmed := by
  intro s p hhst hidle hp hon
  refine ⟨_, execAttach_armed hhst hidle hp hon, ?_, fun i q => storeBit_registerFresh _ i q⟩
  rw [hhst]
  rfl

/-- Settles O25: AT_INIT and AT_REG start from a full store and with nothing attached. -/
theorem firstAttachArmsAndRegisters : Obligations.FirstAttachArmsAndRegisters := by
  intro s p hhst hidle hp hoff
  refine ⟨_, execAttach_first hhst hidle hp hoff, ?_, fun i q => ?_⟩
  · have hmask : 0 ||| mask p = mask p := BitVec.zero_or
    rw [hhst, ← hmask]
    rfl
  · have hfull : (s.latchPin p).fillStore.storeBit i q = true := storeBit_fillStore _ i q
    refine (storeBit_registerFresh _ i q).trans ?_
    change ((s.latchPin p).fillStore.storeBit i q && decide (q ≠ p)) = decide (q ≠ p)
    rw [hfull, Bool.true_and]

/-- Settles O26: the updates from position 0 on spell the packet ST_LATCH has stored (`UpdatedFrom`). -/
theorem setThrottleNetEffect : Obligations.SetThrottleNetEffect := by
  intro s p v hhst hidle hp
  obtain ⟨t, hrun, hframe, hbit⟩ := execSetThrottle_updatedFrom hhst hidle v hp
  have hpacket := packet_latchFrame s p v
  refine ⟨t, hrun, ?_, fun i q => (hbit i q).trans ?_⟩
  · rw [hpacket] at hframe
    rw [hhst]
    exact hframe
  · rw [hpacket]
    exact if_congr (and_iff_left (Fin.zero_le i)) rfl rfl

/-- Settles O27. -/
theorem encodeNetEffect : Obligations.EncodeNetEffect := by
  intro s v hhst hidle
  refine (execEncode_ready hhst hidle v).trans ?_
  rw [hhst]
  rfl

/-- Settles O31: ATTACH leaves a state in which the pin's SET_THROTTLE runs, with its net effect on the column. -/
theorem attachThenSetThrottleSpellsTheFrame : Obligations.AttachThenSetThrottleSpellsTheFrame := by
  intro s a v hhst hidle ha
  obtain ⟨t, hattach, hready, hquiet, hatt⟩ := execAttach_completes hhst hidle ha
  obtain ⟨u, hset, -, hbit⟩ := setThrottleNetEffect t a v hready hquiet hatt
  exact ⟨t, u, hattach, hset, fun i => (hbit i a).trans (if_pos rfl)⟩

/-- Settles O32: AT_SETUP starts the timer, nothing stops it, and under the invariant, which every step keeps, the
stage S_SETUP means that it is off. -/
theorem setupRunsOnce : Obligations.SetupRunsOnce := by
  intro s t hi h
  obtain ⟨hhst, hidle, rfl⟩ := execAtSetup_next h
  have hoff := hi.timerOff_of_setup hhst
  have ht := (HostStep.atSetup hhst hidle).inv hi
  refine ⟨hoff, (hi.flags.1 hoff).1, rfl, fun u hu => ?_⟩
  have hon := timerActive_of_reach hu rfl
  exact ⟨hon, (ht.reach hu).hst_ne_setup hon⟩

/-- Settles O33. -/
theorem pinIsolation : Obligations.PinIsolation := fun _ _ _ _ hi hon h hother => exec_samePin hi hon h hother

end Sys2Proof.Proofs
end

section
/-! PROOFS. The steps of the transmitter, the timer and the environment (R100, R102 to R105, R109), one by one: where
each is enabled and what it makes of PORT and of the two sequencers (R110, R114). -/

namespace Sys2Proof.Machine

/-! ### Where a step is enabled (R38) -/

/-- A step whose Boolean condition says `P` has its effect where `P` holds and makes no step elsewhere. -/
theorem whenEnabled_of_iff {c : Bool} {P : Prop} (h : c = true ↔ P) (name : String) (s' : State) :
    (P → whenEnabled c name s' = .next s') ∧ (¬P → ∀ t, whenEnabled c name s' ≠ .next t) :=
  ⟨fun hp => whenEnabled_next.2 ⟨h.2 hp, rfl⟩, fun hp _ ht => hp (h.1 (whenEnabled_next.1 ht).1)⟩

section
variable {s : State} {i : Pos}

theorem execTxStart_enabled (hidle : s.seq = .idle) (hpend : s.tickPending = true) (hirq : s.irqEn = true) :
    execTxStart s = .next s.takeInterrupt :=
  (whenEnabled_of_iff (tickTaken_iff s) _ _).1 ⟨hidle, hpend, hirq⟩

theorem execTxHigh_enabled (h : s.seq = .high i) : execTxHigh i s = .next (txHighEffect i s) :=
  (whenEnabled_of_iff (txAt_iff s _) _ _).1 h

theorem execTxData_enabled (h : s.seq = .data i) : execTxData i s = .next (txDataEffect i s) :=
  (whenEnabled_of_iff (txAt_iff s _) _ _).1 h

theorem execTxLow_enabled (h : s.seq = .low i) : execTxLow i s = .next (txLowAdvance i (txLowPort s)) :=
  (whenEnabled_of_iff (txAt_iff s _) _ _).1 h

theorem execTimerMatch_enabled (hon : s.timerActive = true) : execTimerMatch s = .next s.raiseTick :=
  (whenEnabled_of_iff (timerRuns_iff s) _ _).1 hon

/-! ### PORT after each port operation, lane by lane (R103 to R105, R110) -/

variable (s i)

theorem txHighEffect_port_getLsbD (q : Pin) :
    (txHighEffect i s).port.getLsbD q = (s.port.getLsbD q || s.attached q) := BitVec.getLsbD_or

theorem txDataEffect_port_getLsbD (q : Pin) :
    (txDataEffect i s).port.getLsbD q = (s.port.getLsbD q && s.storeBit i q) := BitVec.getLsbD_and

theorem and_not_attachedPins_getLsbD (v : Mask) (q : Pin) :
    (v &&& ~~~ s.attachedPins).getLsbD q = (v.getLsbD q && !s.attached q) := by
  have hq : (q : Nat) < 8 := q.isLt
  simp only [BitVec.getLsbD_and, BitVec.getLsbD_not, hq, decide_true, Bool.true_and, State.attached]

/-- What TX_LOW(`i`) does after its port write, with slot 15 told apart by its number: the fields it changes. -/
theorem txLowAdvance_eq : txLowAdvance i s = { s with
    seq := if h : (i : Nat) < 15 then .high ⟨i + 1, by omega⟩ else .idle
    irqEn := if (i : Nat) < 15 then s.irqEn else true } := by
  unfold txLowAdvance nextPos
  split_ifs <;> rfl

theorem txLow_port_getLsbD (q : Pin) :
    (txLowAdvance i (txLowPort s)).port.getLsbD q = (s.port.getLsbD q && !s.attached q) := by
  rw [txLowAdvance_eq]
  exact and_not_attachedPins_getLsbD s s.port q

end

/-! ### The sequencers (R114) -/

theorem HostStep.seq {s t : State} (h : HostStep s t) : t.seq = s.seq := by
  cases h <;> rfl

/-- `seq` is not the host's to move. -/
theorem exec_seq_of_hostStep {i : Instr} {s t : State} (hi : isHostStep i = true) (h : exec i s = .next t) :
    t.seq = s.seq :=
  HostRun.keeps (P := fun u => u.seq = s.seq) (fun _ _ hu hstep => hstep.seq.trans hu) (exec_hostRun hi h) rfl

/-- `hst` is the host's alone to move. -/
theorem exec_hst_of_not_hostStep {i : Instr} {s t : State} (hi : isHostStep i = false) (h : exec i s = .next t) :
    t.hst = s.hst := by
  obtain ⟨-, -, -, hhst, -⟩ := exec_sameHost hi h
  exact hhst

/-- ISSUE leaves READY for the first stage of its command (R80). -/
theorem execIssue_hst {s t : State} (h : execIssue s = .next t) :
    s.hst = .ready ∧ (t.hst = .setup ∨ t.hst = .init ∨ t.hst = .latch ∨ t.hst = .enc) := by
  obtain ⟨w, -, hissue⟩ := execIssue_next h
  obtain ⟨hready, -, ⟨p, -, -, rfl⟩ | ⟨p, v, -, -, rfl⟩ | ⟨v, -, rfl⟩⟩ := issueWord_next hissue
  · refine ⟨hready, ?_⟩
    rw [State.setHst_hst]
    split_ifs <;> simp
  · exact ⟨hready, .inr (.inr (.inl rfl))⟩
  · exact ⟨hready, .inr (.inr (.inr rfl))⟩

/-- A whole command that runs ends where it started, in READY (R81, R85, R88). -/
theorem command_ends_ready {c : Command} {s t : State} (h : exec c.instr s = .next t) :
    s.hst = .ready ∧ t.hst = .ready := by
  refine ⟨(ready_of_command_next h).1, ?_⟩
  cases c with
  | attach p =>
    obtain ⟨-, -, u, -, -, -, hreg⟩ := execAttach_next h
    obtain ⟨-, -, rfl⟩ := execAtReg_next hreg
    rfl
  | setThrottle p v =>
    obtain ⟨hhst, hidle, hp⟩ := execSetThrottle_enabled h
    obtain ⟨u, hu, hframe, -⟩ := execSetThrottle_updatedFrom hhst hidle v hp
    cases h.symm.trans hu
    rw [hframe]
  | encode v =>
    obtain ⟨u, -, henc⟩ := andThen_eq_next.1 h
    obtain ⟨-, -, rfl⟩ := execEncExec_next henc
    rfl

end Sys2Proof.Machine

namespace Sys2Proof.Proofs
open Sys2Proof Sys2Proof.Machine

/-- Settles O34. -/
theorem timerMatchRaisesTheTick : Obligations.TimerMatchRaisesTheTick := by
  refine ⟨decode_encode .timerMatch, fun s => ?_⟩
  obtain ⟨hruns, hstops⟩ := whenEnabled_of_iff (timerRuns_iff s) "TIMER_MATCH" s.raiseTick
  exact ⟨hruns, fun hoff => hstops (Bool.eq_false_iff.1 hoff)⟩

/-- Settles O35. -/
theorem txStartTakesTheInterrupt : Obligations.TxStartTakesTheInterrupt :=
  ⟨decode_encode .txStart, fun s => whenEnabled_of_iff (tickTaken_iff s) "TX_START" s.takeInterrupt⟩

/-- Settles O36. -/
theorem txHighRaisesAttachedPins : Obligations.TxHighRaisesAttachedPins := fun s i =>
  ⟨decode_encode (.txHigh i), whenEnabled_of_iff (txAt_iff s (.high i)) "TX_HIGH" (txHighEffect i s)⟩

/-- Settles O37. -/
theorem txDataSelectsTheEntry : Obligations.TxDataSelectsTheEntry := fun s i =>
  ⟨decode_encode (.txData i), whenEnabled_of_iff (txAt_iff s (.data i)) "TX_DATA" (txDataEffect i s)⟩

/-- Settles O38. -/
theorem txLowEndsThePulse : Obligations.TxLowEndsThePulse := by
  intro s i
  obtain ⟨hruns, hstops⟩ := whenEnabled_of_iff (txAt_iff s (.low i)) "TX_LOW" (txLowAdvance i (txLowPort s))
  refine ⟨decode_encode (.txLow i), fun h => (hruns h).trans ?_, hstops⟩
  rw [txLowAdvance_eq]
  rfl

/-- Settles O39. -/
theorem envPortKeepsAttachedBits : Obligations.EnvPortKeepsAttachedBits := fun s v =>
  ⟨decode_encode (.envPort v),
    whenEnabled_of_iff (envMayMove_iff s) "ENV_PORT" (s.writePort (envPortValue v s))⟩

/-- Settles O45: each of the three port operations gives a lane of PORT by the same lane of its operands. -/
theorem lanesAreIndependent : Obligations.LanesAreIndependent := by
  intro s u s' u' q k i hi hs hu
  obtain rfl | rfl | rfl := hi
  · obtain ⟨-, rfl⟩ := execTxHigh_next hs
    obtain ⟨-, rfl⟩ := execTxHigh_next hu
    rw [txHighEffect_port_getLsbD, txHighEffect_port_getLsbD]
    exact ⟨fun hport hatt _ => by rw [hport, hatt], fun hfree _ => by rw [hfree, Bool.or_false], nofun⟩
  · obtain ⟨-, rfl⟩ := execTxData_next hs
    obtain ⟨-, rfl⟩ := execTxData_next hu
    rw [txDataEffect_port_getLsbD, txDataEffect_port_getLsbD]
    exact ⟨fun hport _ hbit => by rw [hport, hbit], fun _ hne => absurd rfl hne, fun _ => rfl⟩
  · obtain ⟨-, rfl⟩ := execTxLow_next hs
    obtain ⟨-, rfl⟩ := execTxLow_next hu
    rw [txLow_port_getLsbD, txLow_port_getLsbD]
    exact ⟨fun hport hatt _ => by rw [hport, hatt], fun hfree _ => by rw [hfree, Bool.not_false, Bool.and_true],
      nofun⟩

/-- Settles O48: a step moves the one sequencer that is its agent's, from the value that selects it; the other stays
(`exec_seq_of_hostStep`, `exec_hst_of_not_hostStep`). -/
theorem sequencerTransitions : Obligations.SequencerTransitions := by
  intro s t i h
  cases i with
  | attach p =>
    obtain ⟨hs, ht⟩ := command_ends_ready (c := .attach p) h
    exact ⟨hs, ht, exec_seq_of_hostStep rfl h⟩
  | setThrottle p v =>
    obtain ⟨hs, ht⟩ := command_ends_ready (c := .setThrottle p v) h
    exact ⟨hs, ht, exec_seq_of_hostStep rfl h⟩
  | encode v =>
    obtain ⟨hs, ht⟩ := command_ends_ready (c := .encode v) h
    exact ⟨hs, ht, exec_seq_of_hostStep rfl h⟩
  | issue =>
    obtain ⟨hs, ht⟩ := execIssue_hst h
    exact ⟨hs, ht, exec_seq_of_hostStep rfl h⟩
  | atSetup => obtain ⟨hs, -, rfl⟩ := execAtSetup_next h; exact ⟨hs, rfl, rfl⟩
  | atInit => obtain ⟨hs, -, rfl⟩ := execAtInit_next h; exact ⟨hs, rfl, rfl⟩
  | atReg => obtain ⟨hs, -, rfl⟩ := execAtReg_next h; exact ⟨hs, rfl, rfl⟩
  | stLatch => obtain ⟨hs, -, rfl⟩ := execStLatch_next h; exact ⟨hs, rfl, rfl⟩
  | stUpd k =>
    obtain ⟨hs, -, ht⟩ := execStUpd_next h
    refine ⟨hs, exec_seq_of_hostStep rfl h, ?_⟩
    obtain ⟨j, hj, e⟩ | ⟨hk, e⟩ := advanceUpd_cases k (s.memWrite k (updatedEntry s k))
    · exact .inl ⟨j, nextPos_some hj, by rw [ht, e]; rfl⟩
    · exact .inr ⟨hk, by rw [ht, e]; rfl⟩
  | encExec => obtain ⟨hs, -, rfl⟩ := execEncExec_next h; exact ⟨hs, rfl, rfl⟩
  | txStart => obtain ⟨hs, -, -, rfl⟩ := execTxStart_next h; exact ⟨hs, rfl, rfl⟩
  | txHigh k => obtain ⟨hs, rfl⟩ := execTxHigh_next h; exact ⟨hs, rfl, rfl⟩
  | txData k => obtain ⟨hs, rfl⟩ := execTxData_next h; exact ⟨hs, rfl, rfl⟩
  | txLow k =>
    obtain ⟨hs, ht⟩ := execTxLow_next h
    refine ⟨hs, exec_hst_of_not_hostStep rfl h, ?_⟩
    obtain ⟨j, hj, e⟩ | ⟨hk, e⟩ := txLowAdvance_cases k (txLowPort s)
    · exact .inl ⟨j, nextPos_some hj, by rw [ht, e]; rfl⟩
    · exact .inr ⟨hk, by rw [ht, e]; rfl⟩
  | timerMatch => obtain ⟨-, rfl⟩ := execTimerMatch_next h; exact ⟨rfl, rfl⟩
  | envPort v => obtain ⟨-, rfl⟩ := execEnvPort_next h; exact ⟨rfl, rfl⟩

end Sys2Proof.Proofs
end

section
/-! PROOFS. One whole transmission (R106, R107, R111): the values PORT takes, slot after slot, in closed form; from it
every lane of the 48 values, what is left of the unattached lanes, and the word each attached pin carries. -/

namespace Sys2Proof.Machine

/-! ### The values PORT takes (R103 to R105) -/

section
variable (s : State)

/-- PORT after the three writes of slot `i`, from the value `v` before them. -/
def State.slotPort (v : Mask) (i : Pos) : Mask := ((v ||| s.attachedPins) &&& s.memRead i) &&& ~~~ s.attachedPins

/-- PORT before slot `n` of a transmission that starts in `s`; after slot 15 for `n = 16`. -/
def State.portBefore (n : Nat) : Mask := (positions.take n).foldl s.slotPort s.port

/-- The three values PORT takes in slot `i`, from the value `v` before it. -/
def State.slotLevels (v : Mask) (i : Pos) : List Mask :=
  [v ||| s.attachedPins, (v ||| s.attachedPins) &&& s.memRead i, s.slotPort v i]

/-- The 48 values PORT takes in a transmission that starts in `s`. -/
def State.levels : List Mask := positions.flatMap fun i : Pos => s.slotLevels (s.portBefore i) i

theorem getElem?_positions (i : Pos) : positions[(i : Nat)]? = some i := by
  revert i; decide

theorem mem_take_positions {n : Nat} {j : Pos} : j ∈ positions.take n ↔ (j : Nat) < n := by
  simp only [List.mem_take_iff_getElem, positions, List.getElem_finRange, List.length_finRange]
  constructor
  · rintro ⟨m, hm, rfl⟩
    exact (lt_min_iff.1 hm).1
  · exact fun hj => ⟨j, lt_min hj j.isLt, rfl⟩

theorem portBefore_succ (i : Pos) : s.portBefore (i + 1) = s.slotPort (s.portBefore i) i := by
  simp only [State.portBefore, List.take_add_one, getElem?_positions, Option.toList_some, List.foldl_append,
    List.foldl_cons, List.foldl_nil]

/-! ### The same lane by lane (R106) -/

theorem or_attachedPins_getLsbD (v : Mask) (q : Pin) :
    (v ||| s.attachedPins).getLsbD q = (v.getLsbD q || s.attached q) := BitVec.getLsbD_or

theorem and_memRead_getLsbD (v : Mask) (i : Pos) (q : Pin) :
    (v &&& s.memRead i).getLsbD q = (v.getLsbD q && s.storeBit i q) := BitVec.getLsbD_and

/-- A slot leaves an attached lane low and gates an unattached one by its entry. -/
theorem slotPort_getLsbD (v : Mask) (i : Pos) (q : Pin) :
    (s.slotPort v i).getLsbD q = (v.getLsbD q && (!s.attached q && s.storeBit i q)) := by
  rw [State.slotPort, and_not_attachedPins_getLsbD, and_memRead_getLsbD, or_attachedPins_getLsbD]
  cases s.attached q <;> simp

theorem foldl_slotPort_getLsbD (l : List Pos) (v : Mask) (q : Pin) :
    (l.foldl s.slotPort v).getLsbD q = (v.getLsbD q && l.all fun i => !s.attached q && s.storeBit i q) := by
  induction l generalizing v with
  | nil => simp
  | cons i l ih => rw [List.foldl_cons, ih, slotPort_getLsbD, List.all_cons, Bool.and_assoc]

variable {s} {q : Pin}

/-- An unattached lane is PORT's own, gated by the entries of the slots before. -/
theorem portBefore_of_unattached (hq : s.attached q = false) (n : Nat) :
    (s.portBefore n).getLsbD q =
      (s.port.getLsbD q && decide (∀ j : Pos, (j : Nat) < n → s.storeBit j q = true)) := by
  rw [State.portBefore, foldl_slotPort_getLsbD]
  congr 1
  rw [Bool.eq_iff_iff]
  simp [hq, mem_take_positions]

/-- An attached lane is low after every slot. -/
theorem portBefore_succ_of_attached (hq : s.attached q = true) (i : Pos) :
    (s.portBefore (i + 1)).getLsbD q = false := by
  rw [portBefore_succ, slotPort_getLsbD, hq, Bool.not_true, Bool.false_and, Bool.and_false]

/-! ### The run of a transmission -/

/-- The steps of `l` run from `s` to `t`, and PORT takes the values `levels` after them. -/
def Traces (l : List Instr) (s t : State) (levels : List Mask) : Prop :=
  execAll l s = .next t ∧ portTrace l s = levels

theorem Traces.cons {i : Instr} {l : List Instr} {s t u : State} {levels : List Mask} (h : exec i s = .next t)
    (hl : Traces l t u levels) : Traces (i :: l) s u (t.port :: levels) := by
  obtain ⟨hrun, htrace⟩ := hl
  refine ⟨?_, ?_⟩
  · change andThen (exec i s) (execAll l) = _
    rw [h, andThen_next, hrun]
  · rw [portTrace, h, ← htrace]

/-- The port writes of slot `i`: what `portWrites` makes of each position. -/
def slotWrites (i : Pos) : List Instr := [.txHigh i, .txData i, .txLow i]

variable (s)

/-- Where slot `i` of a transmission from `s` starts. -/
def State.slotStart (i : Pos) : State := (s.takeInterrupt.writePort (s.portBefore i)).setSeq (.high i)

/-- Where the transmission from `s` ends. -/
def State.transmitted : State := (s.takeInterrupt.writePort (s.portBefore 16)).returnFromInterrupt

variable {s}

/-- What follows TX_LOW(`i`)'s port write does not depend on where `seq` stands. -/
theorem txLowAdvance_setSeq (i : Pos) (s : State) (q : Seq) : txLowAdvance i (s.setSeq q) = txLowAdvance i s := by
  unfold txLowAdvance
  cases nextPos i <;> rfl

theorem txLowAdvance_port (i : Pos) (s : State) : (txLowAdvance i s).port = s.port := by
  rw [txLowAdvance_eq]

/-- The three writes of a slot, then the steps that follow them. -/
theorem traces_slotWrites {i : Pos} {l : List Instr} {t : State} {levels : List Mask} (hseq : s.seq = .high i)
    (h : Traces l (txLowAdvance i (s.writePort (s.slotPort s.port i))) t levels) :
    Traces (slotWrites i ++ l) s t (s.slotLevels s.port i ++ levels) := by
  have hlow : exec (.txLow i) (txDataEffect i (txHighEffect i s)) =
      .next (txLowAdvance i (s.writePort (s.slotPort s.port i))) :=
    (execTxLow_enabled rfl).trans (congrArg _ (txLowAdvance_setSeq i (s.writePort (s.slotPort s.port i)) (.low i)))
  have hlast := Traces.cons hlow h
  rw [txLowAdvance_port] at hlast
  have hdata : exec (.txData i) (txHighEffect i s) = .next (txDataEffect i (txHighEffect i s)) :=
    execTxData_enabled rfl
  have hhigh : exec (.txHigh i) s = .next (txHighEffect i s) := execTxHigh_enabled hseq
  exact .cons hhigh (.cons hdata hlast)

/-- The slots from `k` on all run. The induction goes down from the last slot, as it does for the updates of
SET_THROTTLE. -/
theorem traces_from (s : State) (k : Pos) :
    Traces ((positions.drop k).flatMap slotWrites) (s.slotStart k) s.transmitted
      ((positions.drop k).flatMap fun i : Pos => s.slotLevels (s.portBefore i) i) := by
  induction k using Fin.reverseInduction with
  | last =>
    refine traces_slotWrites (i := 15) (l := []) (s := s.slotStart 15) (levels := []) rfl ⟨?_, rfl⟩
    have hport : (s.slotStart 15).slotPort (s.slotStart 15).port 15 = s.portBefore 16 := (portBefore_succ s 15).symm
    rw [hport]
    rfl
  | cast k ih =>
    rw [positions_drop_castSucc, List.flatMap_cons, List.flatMap_cons]
    refine traces_slotWrites (s := s.slotStart k.castSucc) rfl ?_
    have hport : (s.slotStart k.castSucc).slotPort (s.slotStart k.castSucc).port k.castSucc = s.portBefore k.succ :=
      (portBefore_succ s k.castSucc).symm
    rw [hport, txLowAdvance, nextPos_castSucc]
    exact ih

/-- A transmission returns to the state it started in, but for PORT and the tick it has taken. -/
theorem transmitted_frame (hidle : s.seq = .idle) (hirq : s.irqEn = true) :
    s.transmitted = { s with port := s.transmitted.port, tickPending := false } := by
  rw [hidle, hirq]
  rfl

section
variable (hidle : s.seq = .idle) (hpend : s.tickPending = true) (hirq : s.irqEn = true)
include hidle hpend hirq

theorem traces_transmitSteps :
    Traces transmitSteps s s.transmitted (s.port :: s.levels) :=
  Traces.cons (t := s.slotStart 0) (execTxStart_enabled hidle hpend hirq) (traces_from s 0)

theorem execAll_transmitSteps : execAll transmitSteps s = .next s.transmitted :=
  (traces_transmitSteps hidle hpend hirq).1

theorem transmission_eq : transmission s = s.levels := by
  rw [transmission, (traces_transmitSteps hidle hpend hirq).2, List.tail_cons]

end

/-- Lists of one length one after the other: the element `r` of list `n`. -/
theorem getElem?_flatMap_of_length {α β : Type} {f : α → List β} {w : Nat} (hf : ∀ a, (f a).length = w)
    {r : Nat} (hr : r < w) (l : List α) (n : Nat) :
    (l.flatMap f)[w * n + r]? = l[n]?.bind fun a => (f a)[r]? := by
  induction l generalizing n with
  | nil => simp
  | cons a l ih =>
    rw [List.flatMap_cons]
    cases n with
    | zero => rw [Nat.mul_zero, Nat.zero_add, List.getElem?_append_left (by rwa [hf a])]; rfl
    | succ n =>
      have hindex : w * (n + 1) + r = (f a).length + (w * n + r) := by rw [hf a, Nat.mul_succ]; omega
      rw [hindex, List.getElem?_append_right (Nat.le_add_right _ _), Nat.add_sub_cancel_left, ih]
      rfl

theorem getElem?_levels (s : State) (i : Pos) {r : Nat} (hr : r < 3) :
    s.levels[3 * (i : Nat) + r]? = (s.slotLevels (s.portBefore i) i)[r]? := by
  rw [State.levels, getElem?_flatMap_of_length (w := 3) (fun _ => rfl) hr, getElem?_positions]
  rfl

theorem length_levels (s : State) : s.levels.length = 48 := by
  simp [State.levels, List.length_flatMap, State.slotLevels, positions]

/-! ### Words and their bits (R31, R107) -/

/-- Bits shifted in one after the other: the last of them is bit 0. -/
theorem foldl_shiftIn_getLsbD {α : Type} (b : α → Bool) (l : List α) {k : Nat} (hk : k < 16) :
    (l.foldl (fun (f : Frame) a => (f <<< 1) ||| (if b a then 1 else 0)) 0).getLsbD k =
      (l.reverse[k]?.map b).getD false := by
  induction l using List.reverseRecOn generalizing k with
  | nil => simp
  | append_singleton l a ih =>
    rw [List.foldl_append, List.foldl_cons, List.foldl_nil, List.reverse_append, List.reverse_singleton,
      List.singleton_append, BitVec.getLsbD_or]
    cases k with
    | zero => cases hb : b a <;> simp [hb]
    | succ k =>
      have hbit : (if b a then 1 else 0 : Frame).getLsbD (k + 1) = false := by cases b a <;> simp
      rw [hbit, Bool.or_false, List.getElem?_cons_succ, ← ih (by omega), BitVec.getLsbD_shiftLeft]
      simp only [hk, Nat.not_lt.2 (Nat.le_add_left 1 k), decide_true, decide_false, Bool.not_false, Bool.true_and,
        Nat.add_sub_cancel]

/-- The word of sixteen bits shifted in, position 0 first, has each of them at its position. -/
theorem frameBit_foldl_shiftIn (b : Pos → Bool) (i : Pos) :
    frameBit (positions.foldl (fun (f : Frame) a => (f <<< 1) ||| (if b a then 1 else 0)) 0) i = b i := by
  have hi : positions.reverse[15 - (i : Nat)]? = some i := by revert i; decide
  rw [frameBit, foldl_shiftIn_getLsbD b positions (by omega), hi]
  rfl

/-- Two frames are equal when they agree at every position. -/
theorem frame_ext {f g : Frame} (h : ∀ i : Pos, frameBit f i = frameBit g i) : f = g := by
  refine BitVec.eq_of_getLsbD_eq fun k hk => ?_
  have hbit := h ⟨15 - k, by omega⟩
  rwa [frameBit, frameBit, Nat.sub_sub_self (by omega)] at hbit

/-! ### What the invariant says of the columns a transmission reads (R22, R23) -/

/-- The column of an unattached pin reads 1 throughout, but for the pin between AT_INIT and AT_REG, whose column
reads 0. -/
theorem State.Inv.unattached_column (hi : s.Inv) (hq : s.attached q = false) :
    decide (∀ j : Pos, s.storeBit j q = true) = !(decide (s.hst = .reg) && decide (s.cmdPin = q)) := by
  by_cases hreg : s.hst = .reg ∧ s.cmdPin = q
  · obtain ⟨hhst, rfl⟩ := hreg
    have hzero : s.storeBit 0 s.cmdPin = false := (hi.slots.2 hhst).2 0
    have hnot : ¬∀ j : Pos, s.storeBit j s.cmdPin = true := fun hall => by simp [hall 0] at hzero
    simp [hhst, hnot]
  · rw [decide_eq_true (hi.unattached q hq hreg), ← Bool.decide_and, decide_eq_false hreg, Bool.not_false]

/-- The column of an attached pin spells its packet while no ST_UPD of it is left (R23). -/
theorem State.Inv.attached_column (hi : s.Inv) (hq : s.attached q = true)
    (hupd : ¬∃ k, s.hst = .upd k ∧ s.cmdPin = q) (i : Pos) : s.storeBit i q = frameBit (s.packet q) i :=
  hi.attachedPacket q hq i fun k hhst hpin => absurd ⟨k, hhst, hpin⟩ hupd

end

end Sys2Proof.Machine

namespace Sys2Proof.Proofs
open Sys2Proof Sys2Proof.Machine

/-- Settles O41: the run and the trace in closed form (`traces_transmitSteps`), read lane by lane. -/
theorem transmissionNetEffect : Obligations.TransmissionNetEffect := by
  intro s hidle hpend hirq
  refine ⟨s.transmitted, execAll_transmitSteps hidle hpend hirq, transmitted_frame hidle hirq, ?_⟩
  rw [transmission_eq hidle hpend hirq]
  refine ⟨length_levels s, fun i q => ⟨_, _, _, getElem?_levels s i (r := 0) (by decide),
    getElem?_levels s i (r := 1) (by decide), getElem?_levels s i (r := 2) (by decide), ?_⟩, fun q => ?_⟩
  · rw [and_memRead_getLsbD, or_attachedPins_getLsbD, ← portBefore_succ]
    refine ⟨fun hq => ?_, fun hq => ?_⟩
    · rw [hq, Bool.or_true, Bool.true_and]
      exact ⟨rfl, rfl, portBefore_succ_of_attached hq i⟩
    · have hlow : (s.portBefore (i + 1)).getLsbD q = ((s.portBefore i).getLsbD q && s.storeBit i q) := by
        rw [portBefore_succ, slotPort_getLsbD, hq, Bool.not_false, Bool.true_and]
      rw [hq, Bool.or_false, ← hlow]
      refine ⟨portBefore_of_unattached hq i, (portBefore_of_unattached hq (i + 1)).trans ?_, rfl⟩
      simp only [Nat.lt_succ_iff, Fin.le_def]
  · change (s.portBefore 16).getLsbD q = _
    cases hq : s.attached q with
    | true => exact portBefore_succ_of_attached hq 15
    | false =>
      refine (portBefore_of_unattached hq 16).trans ?_
      simp only [Fin.is_lt, forall_const, Bool.not_false, Bool.true_and]

/-- Settles O42: an unattached lane ends as PORT's gated by its column, which the invariant knows. -/
theorem unattachedPortBitsKept : Obligations.UnattachedPortBitsKept := by
  intro s t hi h q hq
  obtain ⟨u, hstart, -⟩ := andThen_eq_next.1 h
  obtain ⟨hidle, hpend, hirq, -⟩ := execTxStart_next hstart
  obtain ⟨t', hrun, -, -, -, hport⟩ := transmissionNetEffect s hidle hpend hirq
  cases h.symm.trans hrun
  rw [hport q, hq, Bool.not_false, Bool.true_and, hi.unattached_column hq]

/-- Settles O43: the data levels of an attached pin are its column, which the invariant ties to the packet. -/
theorem wordOnPinIsThePacket : Obligations.WordOnPinIsThePacket := by
  intro s p hi hidle hpend hirq hp
  have hlevel (i : Pos) : dataLevel (transmission s) p i = s.storeBit i p := by
    obtain ⟨-, -, -, -, hlanes, -⟩ := transmissionNetEffect s hidle hpend hirq
    obtain ⟨_, d, _, -, hd, -, hattached, -⟩ := hlanes i p
    obtain ⟨-, hbit, -⟩ := hattached hp
    rw [dataLevel, hd]
    exact hbit
  have hword (i : Pos) : frameBit (wordOnPin (transmission s) p) i = s.storeBit i p :=
    (frameBit_foldl_shiftIn _ i).trans (hlevel i)
  exact ⟨hword, fun hupd => frame_ext fun i => (hword i).trans (hi.attached_column hp hupd i)⟩

end Sys2Proof.Proofs
end

section
/-! PROOFS. The cycle-timed block left to itself: runs of clock cycles, and the timer's count in them (R100). -/

namespace Sys2Proof.Machine

section
variable {s : State}

/-! ### Runs of clock cycles -/

theorem cycles_add (m n : Nat) (s : State) : cycles (m + n) s = cycles n (cycles m s) := by
  induction m generalizing s with
  | zero => rw [Nat.zero_add]; rfl
  | succ m ih => rw [Nat.succ_add]; exact ih (s.cycle true)

theorem cycles_succ (n : Nat) (s : State) : cycles (n + 1) s = (cycles n s).cycle true := cycles_add n 1 s

/-- No cycle touches the host's side (`cycle_frame`), nor does a run of them. -/
theorem cycles_sameHost (n : Nat) (s : State) : s.SameHost (cycles n s) := by
  induction n with
  | zero => exact ⟨rfl, rfl, rfl, rfl, rfl, rfl, rfl, rfl, rfl, rfl, rfl, rfl⟩
  | succ n ih => exact cycles_succ n s ▸ ih.trans (cycle_frame true _)

theorem cycles_timerActive (n : Nat) (s : State) : (cycles n s).timerActive = s.timerActive := by
  obtain ⟨-, -, -, -, -, -, -, -, hon, -⟩ := cycles_sameHost n s
  exact hon

theorem cycles_tcmp (n : Nat) (s : State) : (cycles n s).tcmp = s.tcmp := by
  obtain ⟨-, -, -, -, -, -, -, -, -, hcmp, -⟩ := cycles_sameHost n s
  exact hcmp

theorem cycles_attachedPins (n : Nat) (s : State) : (cycles n s).attachedPins = s.attachedPins := by
  obtain ⟨-, -, hatt, -⟩ := cycles_sameHost n s
  exact hatt

theorem cycles_memRead (n : Nat) (s : State) (i : Pos) : (cycles n s).memRead i = s.memRead i := by
  obtain ⟨hstore, -⟩ := cycles_sameHost n s
  exact memRead_congr hstore i

/-! ### The timer in a cycle (R100) -/

/-- The state in a cycle after the timer's part, one cycle of the running hold passed. -/
def State.counted (s : State) : State := (timerCycle s).setHold ((timerCycle s).hold - 1)

theorem cycle_eq (take : Bool) (s : State) : s.cycle take = portCycle (startCycle take (endCycle s.counted)) := rfl

/-- The end of a transmission leaves the timer's count and the tick alone. -/
theorem endCycle_timer (s : State) : (endCycle s).tcnt = s.tcnt ∧ (endCycle s).tickPending = s.tickPending := by
  obtain ⟨-, -, e⟩ | ⟨-, e⟩ := endCycle_cases s
  · rw [e]; exact ⟨rfl, rfl⟩
  · rw [e]; exact ⟨rfl, rfl⟩

theorem startCycle_tcnt (take : Bool) (s : State) : (startCycle take s).tcnt = s.tcnt := by
  obtain ⟨-, -, -, -, e⟩ | ⟨-, e⟩ := startCycle_cases take s
  · rw [e]; rfl
  · rw [e]

/-- A port write leaves the timer's count and the tick alone. -/
theorem portCycle_timer (s : State) : (portCycle s).tcnt = s.tcnt ∧ (portCycle s).tickPending = s.tickPending := by
  by_cases h0 : s.hold = 0
  · cases hseq : s.seq with
    | idle => rw [portCycle_idle hseq]; exact ⟨rfl, rfl⟩
    | high i => rw [portCycle_high h0 hseq]; exact ⟨rfl, rfl⟩
    | data i => rw [portCycle_data h0 hseq]; exact ⟨rfl, rfl⟩
    | low i =>
      cases hj : nextPos i with
      | some j => rw [portCycle_low h0 hseq hj]; exact ⟨rfl, rfl⟩
      | none =>
        obtain rfl := nextPos_none hj
        rw [portCycle_last h0 hseq]
        exact ⟨rfl, rfl⟩
  · rw [portCycle_of_hold h0]
    exact ⟨rfl, rfl⟩

/-- Only the timer's part of a cycle counts. -/
theorem cycle_tcnt (take : Bool) (s : State) : (s.cycle take).tcnt = (timerCycle s).tcnt := by
  rw [cycle_eq, (portCycle_timer _).1, startCycle_tcnt, (endCycle_timer _).1]
  rfl

/-- A tick pending after a cycle was pending after its timer's part: the later parts only take it. -/
theorem tickPending_of_cycle {take : Bool} (h : (s.cycle take).tickPending = true) :
    (timerCycle s).tickPending = true := by
  rw [cycle_eq, (portCycle_timer _).2] at h
  obtain ⟨-, -, -, -, e⟩ | ⟨-, e⟩ := startCycle_cases take (endCycle s.counted)
  · rw [e] at h
    cases h
  · rw [e, (endCycle_timer _).2] at h
    exact h

/-- No tick is raised in a cycle in which no match is due. -/
theorem cycle_tickPending_of_not_matchDue {take : Bool} (hm : s.matchDue = false)
    (h : (s.cycle take).tickPending = true) : s.tickPending = true := by
  have ht := tickPending_of_cycle h
  obtain ⟨hon, hcnt, -⟩ | ⟨-, -, e⟩ | ⟨-, e⟩ := timerCycle_cases s
  · rw [(matchDue_iff s).2 ⟨hon, hcnt⟩] at hm
    cases hm
  · rwa [e] at ht
  · rwa [e] at ht

/-- A running timer that has just been cleared or programmed: its count starts from 0 (R100). -/
def State.Cleared (s : State) : Prop :=
  s.timerActive = true ∧ s.tcnt = 0 ∧ s.tcmp = BitVec.ofNat 16 (Config.timing.tickPeriod - 1)

theorem tcmp_toNat_of_cleared (h : s.Cleared) : s.tcmp.toNat = Config.timing.tickPeriod - 1 := by
  obtain ⟨-, -, hcmp⟩ := h
  rw [hcmp, Config.tcmp_toNat]

/-- In the first period the count is the number of cycles passed. -/
theorem cycles_tcnt (h : s.Cleared) {n : Nat} (hn : n < Config.timing.tickPeriod) :
    (cycles n s).tcnt.toNat = n := by
  have ⟨hon, hzero, _⟩ := h
  induction n with
  | zero => exact congrArg BitVec.toNat hzero
  | succ n ih =>
    have hcnt := ih (by omega)
    have hcmp : (cycles n s).tcmp.toNat = Config.timing.tickPeriod - 1 := by
      rw [cycles_tcmp, tcmp_toNat_of_cleared h]
    rw [cycles_succ, cycle_tcnt]
    obtain ⟨-, he, -⟩ | ⟨-, -, e⟩ | ⟨hoff, -⟩ := timerCycle_cases (cycles n s)
    · rw [he] at hcnt
      omega
    · have hbound := Config.tickPeriod_bounds
      have hone : (1 : TimerWord).toNat = 1 := rfl
      rw [e, State.countCycle_tcnt, BitVec.toNat_add, hcnt, hone]
      exact Nat.mod_eq_of_lt (by omega)
    · rw [cycles_timerActive, hon] at hoff
      cases hoff

theorem cycles_matchDue_iff (h : s.Cleared) {n : Nat} (hn : n < Config.timing.tickPeriod) :
    (cycles n s).matchDue = true ↔ n = Config.timing.tickPeriod - 1 := by
  have ⟨hon, _, _⟩ := h
  rw [matchDue_iff, cycles_timerActive, cycles_tcmp, ← BitVec.toNat_inj, cycles_tcnt h hn, tcmp_toNat_of_cleared h]
  exact and_iff_right hon

/-- The match of the last cycle of a period clears the count. -/
theorem cycles_tickPeriod_tcnt (h : s.Cleared) : (cycles Config.timing.tickPeriod s).tcnt = 0 := by
  have hbound := Config.tickPeriod_bounds
  have hdue : (cycles (Config.timing.tickPeriod - 1) s).matchDue = true :=
    (cycles_matchDue_iff h (by omega)).2 rfl
  rw [← Nat.sub_add_cancel hbound.1, cycles_succ, cycle_tcnt, timerCycle, if_pos hdue]
  rfl

/-- A port write leaves a cleared timer cleared. -/
theorem State.Cleared.portCycle (h : s.Cleared) : (portCycle s).Cleared := by
  obtain ⟨hon, hcnt, hcmp⟩ := h
  obtain ⟨-, -, -, -, -, -, -, -, hon', hcmp', -⟩ := portCycle_sameHost s
  exact ⟨hon'.trans hon, (portCycle_timer s).1.trans hcnt, hcmp'.trans hcmp⟩

/-- No tick is pending before a period has passed. -/
theorem cycles_tickPending (h : s.Cleared) (hpend : s.tickPending = false) {n : Nat}
    (hn : n < Config.timing.tickPeriod) : (cycles n s).tickPending = false := by
  induction n with
  | zero => exact hpend
  | succ n ih =>
    have hm : (cycles n s).matchDue = false := by
      rw [Bool.eq_false_iff, ne_eq, cycles_matchDue_iff h (by omega)]
      omega
    rw [cycles_succ, Bool.eq_false_iff]
    exact fun hp => Bool.eq_false_iff.1 (ih (by omega)) (cycle_tickPending_of_not_matchDue hm hp)

end

end Sys2Proof.Machine

namespace Sys2Proof.Proofs
open Sys2Proof Sys2Proof.Machine

/-- Settles O57: in the first period the count is the number of cycles (`cycles_tcnt`), and the match that falls due in
its last cycle clears it; a timer that is off does not match. -/
theorem timerPeriod : Obligations.TimerPeriod := by
  intro s
  refine ⟨fun hon hcnt hcmp => ?_, fun hoff => ?_⟩
  · have h : s.Cleared := ⟨hon, hcnt, hcmp⟩
    exact ⟨fun n hn => ⟨cycles_tcnt h hn, cycles_matchDue_iff h hn⟩, cycles_tickPeriod_tcnt h,
      (cycles_timerActive _ s).trans hon, cycles_tcmp _ s⟩
  · have hm : s.matchDue = false := by rw [State.matchDue, hoff, Bool.false_and]
    refine ⟨hm, fun b => ⟨?_, cycle_tickPending_of_not_matchDue hm⟩⟩
    obtain ⟨hon, -, -⟩ | ⟨hon, -, -⟩ | ⟨-, e⟩ := timerCycle_cases s
    · cases hon.symm.trans hoff
    · cases hon.symm.trans hoff
    · rw [cycle_tcnt, e]

end Sys2Proof.Proofs
end

section
/-! PROOFS. The transmitter in the cycle-timed block (R102, R108): its holds and port writes cycle by cycle, the
waveform they put on an attached pin, and how long a transmission lasts. -/

namespace Sys2Proof.Machine

section
variable {s : State}

/-! ### The transmitter in a cycle (R108) -/

/-- What the timed view shows of the transmitter: PORT, `seq`, the cycles left before the next event and the mark of
the last hold. -/
def State.TxView (s : State) (v : Mask) (q : Seq) (n : Nat) (d : Bool) : Prop :=
  s.port = v ∧ s.seq = q ∧ s.hold = n ∧ s.draining = d

section
variable {v : Mask} {q : Seq} {n : Nat} {d : Bool} {i j : Pos}

theorem txView_timerCycle (h : s.TxView v q n d) : (timerCycle s).TxView v q n d := by
  obtain ⟨-, -, e⟩ | ⟨-, -, e⟩ | ⟨-, e⟩ := timerCycle_cases s <;> rw [e] <;> exact h

theorem txView_counted (h : s.TxView v q n d) : s.counted.TxView v q (n - 1) d := by
  obtain ⟨hport, hseq, hhold, hd⟩ := txView_timerCycle h
  exact ⟨hport, hseq, congrArg (· - 1) hhold, hd⟩

theorem counted_sameHost (s : State) : s.SameHost s.counted := timerCycle_sameHost s

theorem counted_attachedPins (s : State) : s.counted.attachedPins = s.attachedPins := by
  obtain ⟨-, -, hatt, -⟩ := counted_sameHost s
  exact hatt

theorem counted_memRead (s : State) (i : Pos) : s.counted.memRead i = s.memRead i := by
  obtain ⟨hstore, -⟩ := counted_sameHost s
  exact memRead_congr hstore i

/-- In a transmission whose end is not due, a cycle is a port write at most. -/
theorem cycle_of_txView (h : s.TxView v q n d) (hq : q ≠ .idle) (hd : d = false ∨ n - 1 ≠ 0) (take : Bool) :
    s.cycle take = portCycle s.counted := by
  obtain ⟨-, hseq, hhold, hdrain⟩ := txView_counted h
  have hend : endCycle s.counted = s.counted := by
    obtain ⟨hmark, hzero, -⟩ | ⟨-, e⟩ := endCycle_cases s.counted
    · rcases hd with rfl | hn
      · cases hdrain.symm.trans hmark
      · exact absurd (hhold.symm.trans hzero) hn
    · exact e
  have hstart : startCycle take s.counted = s.counted := by
    obtain ⟨-, hidle, -⟩ | ⟨-, e⟩ := startCycle_cases take s.counted
    · exact absurd (hseq.symm.trans hidle) hq
    · exact e
  rw [cycle_eq, hend, hstart]

/-- While a hold lasts nothing changes but its count. -/
theorem txView_cycle_of_hold (h : s.TxView v q (n + 1) d) (hq : q ≠ .idle) (hn : n ≠ 0) (take : Bool) :
    (s.cycle take).TxView v q n d := by
  have hview := txView_counted h
  have ⟨_, _, hhold, _⟩ := hview
  rw [cycle_of_txView h hq (.inr hn), portCycle_of_hold (hhold.trans_ne hn)]
  exact hview

/-! The four port writes, each in the cycle in which the hold before it runs out. -/

theorem txView_cycle_high (h : s.TxView v (.high i) 1 false) (take : Bool) :
    (s.cycle take).TxView (v ||| s.attachedPins) (.data i) Config.timing.nH false := by
  obtain ⟨hport, hseq, hhold, hd⟩ := txView_counted h
  rw [cycle_of_txView h nofun (.inl rfl), portCycle_high hhold hseq]
  refine ⟨?_, rfl, rfl, hd⟩
  rw [← hport, ← counted_attachedPins s]
  rfl

theorem txView_cycle_data (h : s.TxView v (.data i) 1 false) (take : Bool) :
    (s.cycle take).TxView (v &&& s.memRead i) (.low i) Config.timing.nD false := by
  obtain ⟨hport, hseq, hhold, hd⟩ := txView_counted h
  rw [cycle_of_txView h nofun (.inl rfl), portCycle_data hhold hseq]
  refine ⟨?_, rfl, rfl, hd⟩
  rw [← hport, ← counted_memRead s]
  rfl

theorem txView_cycle_low (h : s.TxView v (.low i) 1 false) (hj : nextPos i = some j) (take : Bool) :
    (s.cycle take).TxView (v &&& ~~~ s.attachedPins) (.high j) Config.timing.nL false := by
  obtain ⟨hport, hseq, hhold, hd⟩ := txView_counted h
  rw [cycle_of_txView h nofun (.inl rfl), portCycle_low hhold hseq hj]
  refine ⟨?_, rfl, rfl, hd⟩
  rw [← hport, ← counted_attachedPins s]
  rfl

theorem txView_cycle_last (h : s.TxView v (.low 15) 1 false) (take : Bool) :
    (s.cycle take).TxView (v &&& ~~~ s.attachedPins) (.low 15) Config.timing.nL true := by
  obtain ⟨hport, hseq, hhold, -⟩ := txView_counted h
  rw [cycle_of_txView h nofun (.inl rfl), portCycle_last hhold hseq]
  refine ⟨?_, hseq, rfl, rfl⟩
  rw [← hport, ← counted_attachedPins s]
  rfl

/-! ### A hold, and a slot -/

/-- The cycles of a hold before the one in which it runs out. -/
theorem txView_cycles (h : s.TxView v q n d) (hq : q ≠ .idle) {k : Nat} (hk : k < n) :
    (cycles k s).TxView v q (n - k) d := by
  induction k with
  | zero => exact h
  | succ k ih =>
    have hview := ih (by omega)
    rw [show n - k = (n - (k + 1)) + 1 by omega] at hview
    exact cycles_succ k s ▸ txView_cycle_of_hold hview hq (by omega) true

/-- The last cycle of a hold, in which the next event falls due. -/
theorem txView_cycles_last (h : s.TxView v q n d) (hq : q ≠ .idle) (hn : 1 ≤ n) :
    (cycles (n - 1) s).TxView v q 1 d := by
  have hview := txView_cycles h hq (k := n - 1) (by omega)
  rwa [show n - (n - 1) = 1 by omega] at hview

theorem cycles_of_pos (hn : 1 ≤ n) (s : State) : cycles n s = (cycles (n - 1) s).cycle true := by
  rw [← cycles_succ, Nat.sub_add_cancel hn]

theorem one_le_holds : 1 ≤ Config.timing.nH ∧ 1 ≤ Config.timing.nD ∧ 1 ≤ Config.timing.nL := by
  obtain ⟨-, -, hH, hD, hL, -⟩ := (Config.Timing.ok_iff Config.timing).mp Config.timing_ok
  exact ⟨hH, hD, hL⟩

/-- `N_H` cycles after TX_HIGH(`i`), TX_DATA(`i`) writes PORT. -/
theorem txView_cycles_data (h : s.TxView v (.data i) Config.timing.nH false) :
    (cycles Config.timing.nH s).TxView (v &&& s.memRead i) (.low i) Config.timing.nD false := by
  obtain ⟨hH, -, -⟩ := one_le_holds
  rw [cycles_of_pos hH, ← cycles_memRead (Config.timing.nH - 1) s]
  exact txView_cycle_data (txView_cycles_last h nofun hH) true

/-- What slot `i` leaves of PORT, from the value TX_HIGH(`i`) wrote. -/
def State.slotLow (s : State) (v : Mask) (i : Pos) : Mask := v &&& s.memRead i &&& ~~~ s.attachedPins

/-- `N_D` cycles later TX_LOW(`i`) writes PORT, and the last hold of the slot begins. -/
theorem txView_cycles_low (h : s.TxView v (.data i) Config.timing.nH false) :
    (∃ j, nextPos i = some j ∧
        (cycles (Config.timing.nH + Config.timing.nD) s).TxView (s.slotLow v i) (.high j) Config.timing.nL false) ∨
      (i = 15 ∧
        (cycles (Config.timing.nH + Config.timing.nD) s).TxView (s.slotLow v i) (.low 15) Config.timing.nL true) := by
  obtain ⟨-, hD, -⟩ := one_le_holds
  have hdue := txView_cycles_last (txView_cycles_data h) nofun hD
  rw [cycles_add, cycles_of_pos hD, State.slotLow, ← cycles_attachedPins Config.timing.nH s,
    ← cycles_attachedPins (Config.timing.nD - 1) (cycles Config.timing.nH s)]
  cases hj : nextPos i with
  | some j => exact .inl ⟨j, rfl, txView_cycle_low hdue hj true⟩
  | none =>
    obtain rfl := nextPos_none hj
    exact .inr ⟨rfl, txView_cycle_last hdue true⟩

/-- Slot `i` cycle by cycle, from the one in which TX_HIGH(`i`) wrote PORT: the value of PORT, and that `seq` is not
IDLE. -/
theorem slot_cycles (h : s.TxView v (.data i) Config.timing.nH false) {r : Nat} (hr : r < Config.timing.nBit) :
    (cycles r s).seq ≠ .idle ∧ (cycles r s).port =
      if r < Config.timing.nH then v
      else if r < Config.timing.nH + Config.timing.nD then v &&& s.memRead i
      else s.slotLow v i := by
  have hslot : r < Config.timing.nH + Config.timing.nD + Config.timing.nL := hr
  split_ifs with hH hD
  · obtain ⟨hport, hseq, -⟩ := txView_cycles h nofun hH
    exact ⟨hseq.trans_ne nofun, hport⟩
  · obtain ⟨hport, hseq, -⟩ :=
      txView_cycles (txView_cycles_data h) nofun (k := r - Config.timing.nH) (by omega)
    rw [← cycles_add, Nat.add_sub_cancel' (by omega)] at hport hseq
    exact ⟨hseq.trans_ne nofun, hport⟩
  · have hk : r - (Config.timing.nH + Config.timing.nD) < Config.timing.nL := by omega
    have hsum : Config.timing.nH + Config.timing.nD + (r - (Config.timing.nH + Config.timing.nD)) = r := by omega
    obtain ⟨q, d, hq, hlow⟩ : ∃ q d, q ≠ .idle ∧
        (cycles (Config.timing.nH + Config.timing.nD) s).TxView (s.slotLow v i) q Config.timing.nL d := by
      obtain ⟨j, -, hlow⟩ | ⟨-, hlow⟩ := txView_cycles_low h
      · exact ⟨.high j, false, nofun, hlow⟩
      · exact ⟨.low 15, true, nofun, hlow⟩
    obtain ⟨hport, hseq, -⟩ := txView_cycles hlow hq hk
    rw [← cycles_add, hsum] at hport hseq
    exact ⟨hseq.trans_ne hq, hport⟩

/-- `N_BIT` cycles after TX_HIGH(`i`) comes TX_HIGH of the next slot. -/
theorem txView_cycles_nBit (h : s.TxView v (.data i) Config.timing.nH false) (hj : nextPos i = some j) :
    (cycles Config.timing.nBit s).TxView (s.slotLow v i ||| s.attachedPins) (.data j) Config.timing.nH false := by
  obtain ⟨-, -, hL⟩ := one_le_holds
  obtain ⟨k, hk, hlow⟩ | ⟨rfl, -⟩ := txView_cycles_low h
  · obtain rfl : k = j := Option.some_inj.1 (hk.symm.trans hj)
    rw [Config.Timing.nBit, cycles_add, cycles_of_pos hL,
      ← cycles_attachedPins (Config.timing.nH + Config.timing.nD) s,
      ← cycles_attachedPins (Config.timing.nL - 1) (cycles (Config.timing.nH + Config.timing.nD) s)]
    have hdue := txView_cycles_last hlow nofun hL
    exact txView_cycle_high hdue true
  · cases hj

/-! ### The sixteen slots -/

/-- Where slot `i` starts, counted from TX_HIGH(0)'s write; an attached lane that was high then is high again. -/
theorem txView_slot (h : s.TxView v (.data 0) Config.timing.nH false) (i : Pos) :
    ∃ w, (cycles (i * Config.timing.nBit) s).TxView w (.data i) Config.timing.nH false ∧
      ∀ q : Pin, s.attached q = true → v.getLsbD q = true → w.getLsbD q = true := by
  induction i using Fin.induction with
  | zero => exact ⟨v, by rwa [Fin.val_zero, Nat.zero_mul], fun _ _ hv => hv⟩
  | succ i ih =>
    obtain ⟨w, hw, -⟩ := ih
    have hnext := txView_cycles_nBit hw (nextPos_castSucc i)
    rw [← cycles_add, ← Nat.succ_mul, cycles_attachedPins] at hnext
    exact ⟨_, hnext, fun q hq _ => by rw [or_attachedPins_getLsbD, hq, Bool.or_true]⟩

/-- A transmission is under way for `16 * N_BIT` cycles from TX_HIGH(0)'s write. -/
theorem seq_ne_idle_of_lt (h : s.TxView v (.data 0) Config.timing.nH false) {n : Nat}
    (hn : n < 16 * Config.timing.nBit) : (cycles n s).seq ≠ .idle := by
  have hbit : 0 < Config.timing.nBit := by omega
  have hslot : n / Config.timing.nBit < 16 := Nat.div_lt_of_lt_mul (Nat.mul_comm _ _ ▸ hn)
  obtain ⟨w, hw, -⟩ := txView_slot h ⟨n / Config.timing.nBit, hslot⟩
  obtain ⟨hrun, -⟩ := slot_cycles hw (Nat.mod_lt n hbit)
  rwa [← cycles_add, Nat.div_add_mod'] at hrun

/-- In the last of these cycles the last hold has one cycle left. -/
theorem txView_last_cycle (h : s.TxView v (.data 0) Config.timing.nH false) :
    ∃ w, (cycles (16 * Config.timing.nBit - 1) s).TxView w (.low 15) 1 true := by
  obtain ⟨-, -, hL⟩ := one_le_holds
  obtain ⟨w, hw, -⟩ := txView_slot h 15
  obtain ⟨j, hj, -⟩ | ⟨-, hlow⟩ := txView_cycles_low hw
  · cases hj
  · have hdue := txView_cycles_last hlow nofun hL
    have hsum : 16 * Config.timing.nBit - 1 =
        15 * Config.timing.nBit + (Config.timing.nH + Config.timing.nD) + (Config.timing.nL - 1) := by
      unfold Config.Timing.nBit
      omega
    rw [hsum, cycles_add, cycles_add]
    exact ⟨_, hdue⟩

end

/-! ### Start and end of a transmission (R100, R102, R108) -/

/-- The state in which a tick is taken in the cycle of its match, before the port write that may fall due with it. -/
def State.started (s : State) : State :=
  ((s.raiseTick.setHold (s.hold - 1)).takeInterrupt).setHold Config.timing.lIsr

theorem txView_started (hd : s.draining = false) :
    s.started.TxView s.port (.high 0) Config.timing.lIsr false := ⟨rfl, rfl, rfl, hd⟩

/-- A free-running block takes the tick in the cycle of the match (log 15). -/
theorem cycle_of_match (hidle : s.seq = .idle) (hd : s.draining = false) (hirq : s.irqEn = true)
    (hdue : s.matchDue = true) : s.cycle true = portCycle s.started := by
  have hcounted : s.counted = s.raiseTick.setHold (s.hold - 1) := by
    rw [State.counted, timerCycle, if_pos hdue]
    rfl
  have hend : endCycle s.counted = s.counted := by
    rw [hcounted]
    obtain ⟨hmark, -, -⟩ | ⟨-, e⟩ := endCycle_cases (s.raiseTick.setHold (s.hold - 1))
    · cases hd.symm.trans hmark
    · exact e
  have htaken : (s.raiseTick.setHold (s.hold - 1)).tickTaken = true := (tickTaken_iff _).2 ⟨hidle, rfl, hirq⟩
  rw [cycle_eq, hend, hcounted, startCycle, htaken]
  rfl

section
variable {v : Mask} {n : Nat} {i : Pos}

/-- From a cycle that has taken the tick: PORT as before while `L_ISR` runs, if it does. -/
theorem txView_latency (h : s.TxView v (.high i) n false) {k : Nat} (hk : k < n) :
    (cycles k (portCycle s)).TxView v (.high i) (n - k) false := by
  have ⟨_, _, hhold, _⟩ := h
  rw [portCycle_of_hold (hhold.trans_ne (by omega))]
  exact txView_cycles h nofun hk

/-- TX_HIGH(0) writes PORT `L_ISR` cycles after TX_START, in the same cycle where that is 0. -/
theorem txView_first (h : s.TxView v (.high i) n false) :
    (cycles n (portCycle s)).TxView (v ||| s.attachedPins) (.data i) Config.timing.nH false := by
  cases n with
  | zero =>
    obtain ⟨rfl, hseq, hhold, hd⟩ := h
    change (portCycle s).TxView _ _ _ _
    rw [portCycle_high hhold hseq]
    exact ⟨rfl, rfl, rfl, hd⟩
  | succ n =>
    have ⟨_, _, hhold, _⟩ := h
    rw [portCycle_of_hold (hhold.trans_ne (Nat.succ_ne_zero n)), cycles_succ, ← cycles_attachedPins n s]
    exact txView_cycle_high (txView_cycles_last h nofun (Nat.succ_pos n)) true

/-- The cycle in which the last hold runs out ends the transmission, and with no tick pending none starts. -/
theorem cycle_ends (h : s.TxView v (.low 15) 1 true) (hm : s.matchDue = false) (hpend : s.tickPending = false) :
    (s.cycle true).seq = .idle ∧ (s.cycle true).irqEn = true := by
  have hcounted : s.counted.tickPending = false := by
    obtain ⟨hon, hcnt, -⟩ | ⟨-, -, e⟩ | ⟨-, e⟩ := timerCycle_cases s
    · cases hm.symm.trans ((matchDue_iff s).2 ⟨hon, hcnt⟩)
    · rw [State.counted, e]; exact hpend
    · rw [State.counted, e]; exact hpend
  obtain ⟨-, -, hhold, hd⟩ := txView_counted h
  have hend : endCycle s.counted = s.counted.returnFromInterrupt.setDraining false := by
    obtain ⟨-, -, e⟩ | ⟨hor, -⟩ := endCycle_cases s.counted
    · exact e
    · exact absurd hhold (hor.resolve_left (by simp [hd]))
  have hstart : startCycle true (endCycle s.counted) = endCycle s.counted := by
    obtain ⟨-, -, htick, -⟩ | ⟨-, e⟩ := startCycle_cases true (endCycle s.counted)
    · cases (hcounted.symm.trans (endCycle_timer _).2.symm).trans htick
    · exact e
  have hcycle : s.cycle true = s.counted.returnFromInterrupt.setDraining false := by
    rw [cycle_eq, hstart, hend]
    exact portCycle_idle rfl
  rw [hcycle]
  exact ⟨rfl, rfl⟩

/-- The transmission that starts in the cycle of a match ends before the next one (R148): no tick is pending then. -/
theorem transmission_ends (h : s.TxView v (.high 0) Config.timing.lIsr false) (hcleared : s.Cleared)
    (hpend : s.tickPending = false) :
    (cycles (Config.timing.lIsr + 16 * Config.timing.nBit) (portCycle s)).seq = .idle ∧
      (cycles (Config.timing.lIsr + 16 * Config.timing.nBit) (portCycle s)).irqEn = true := by
  obtain ⟨-, -, hH, -, -, hperiod⟩ := (Config.Timing.ok_iff Config.timing).mp Config.timing_ok
  have hbit : Config.timing.nH ≤ Config.timing.nBit := Nat.le_add_right_of_le (Nat.le_add_right _ _)
  have hlast : Config.timing.lIsr + 16 * Config.timing.nBit =
      Config.timing.lIsr + (16 * Config.timing.nBit - 1) + 1 := by omega
  obtain ⟨w, hview⟩ := txView_last_cycle (txView_first h)
  rw [← cycles_add] at hview
  have hm : (cycles (Config.timing.lIsr + (16 * Config.timing.nBit - 1)) (portCycle s)).matchDue = false := by
    rw [Bool.eq_false_iff, ne_eq, cycles_matchDue_iff hcleared.portCycle (by omega)]
    omega
  have hquiet := cycles_tickPending hcleared.portCycle ((portCycle_timer s).2.trans hpend)
    (n := Config.timing.lIsr + (16 * Config.timing.nBit - 1)) (by omega)
  rw [hlast, cycles_succ]
  exact cycle_ends hview hm hquiet

end

end

end Sys2Proof.Machine

namespace Sys2Proof.Proofs
open Sys2Proof Sys2Proof.Machine

/-- Settles O58: the slot's start, then the value of PORT in its cycle `r`, read in the pin's lane. -/
theorem waveformOnAttachedPin : Obligations.WaveformOnAttachedPin := by
  intro s q hseq hhold hd hq hport i r hr
  obtain ⟨w, hw, hhigh⟩ := txView_slot (v := s.port) ⟨rfl, hseq, hhold, hd⟩ i
  obtain ⟨-, hlevel⟩ := slot_cycles hw hr
  rw [← cycles_add, cycles_memRead, State.slotLow, cycles_memRead, cycles_attachedPins] at hlevel
  rw [hlevel]
  split_ifs with hH hD
  · rw [decide_eq_true hH, Bool.true_or]
    exact hhigh q hq hport
  · rw [and_memRead_getLsbD, hhigh q hq hport, decide_eq_false hH, decide_eq_true hD, Bool.false_or]
  · rw [and_not_attachedPins_getLsbD, hq, decide_eq_false hH, decide_eq_false hD, Bool.not_true, Bool.and_false]
    rfl

/-- Settles O59: the tick taken in the cycle of the match, `L_ISR` cycles of latency, the sixteen slots, and the end,
which comes before the next match. -/
theorem transmissionLasts : Obligations.TransmissionLasts := by
  intro s hidle hd hon hirq hcnt hcmp
  have hstart := cycle_of_match hidle hd hirq ((matchDue_iff s).2 ⟨hon, hcnt⟩)
  have hafter (n : Nat) : cycles (1 + n) s = cycles n (portCycle s.started) := by
    rw [cycles_add, ← hstart]
    rfl
  have hview := txView_started hd
  have hlatency (n : Nat) (h1 : 1 ≤ n) (hn : n < 1 + Config.timing.lIsr) :
      (cycles n s).port = s.port ∧ (cycles n s).seq = .high 0 := by
    obtain ⟨hport, hseq, -⟩ := txView_latency hview (k := n - 1) (by omega)
    rw [← hafter, Nat.add_sub_cancel' h1] at hport hseq
    exact ⟨hport, hseq⟩
  have hfirst := txView_first hview
  rw [← hafter] at hfirst
  have ⟨hport, hseq, hhold, _⟩ := hfirst
  refine ⟨hlatency, hport, hseq, hhold, fun n h1 hn => ?_, ?_⟩
  · rcases Nat.lt_or_ge n (1 + Config.timing.lIsr) with hlt | hge
    · obtain ⟨-, hhigh⟩ := hlatency n h1 hlt
      exact hhigh.trans_ne nofun
    · have hrun := seq_ne_idle_of_lt hfirst (n := n - (1 + Config.timing.lIsr)) (by omega)
      rwa [← cycles_add, Nat.add_sub_cancel' hge] at hrun
  · rw [Nat.add_assoc, hafter]
    exact transmission_ends hview ⟨hon, rfl, hcmp⟩ rfl

end Sys2Proof.Proofs
end

section
/-! PROOFS. The cycle-timed view against the untimed one (R101): each of the parts a clock cycle is made of is, on the
untimed part of the state, a step of the timer or the transmitter, or none. -/

namespace Sys2Proof.Machine

section
variable {s t u : State}

/-! ### The untimed part of a state -/

/-- The state without what only the timed view has: the count, the compare value, the hold and the list of moves. -/
def State.timeless (s : State) : State :=
  { s with tcnt := 0, tcmp := 0, hold := 0, draining := false, sched := [] }

/-- Outside the last hold the untimed part is the state without its timed fields. -/
theorem untimed_of_not_draining (h : s.draining = false) : s.untimed = s.timeless := by
  unfold State.untimed
  rw [h]
  rfl

/-- In the last hold of a transmission the untimed view has returned from the interrupt already (D26). -/
theorem untimed_of_draining (h : s.draining = true) : s.untimed = s.returnFromInterrupt.timeless := by
  unfold State.untimed
  rw [h]
  rfl

/-- The untimed part depends on no timed field but the mark of the last hold. -/
theorem untimed_congr (hd : t.draining = s.draining) (h : t.timeless = s.timeless) : t.untimed = s.untimed := by
  cases hs : s.draining with
  | false => rw [untimed_of_not_draining hs, untimed_of_not_draining (hd.trans hs), h]
  | true =>
    rw [untimed_of_draining hs, untimed_of_draining (hd.trans hs)]
    exact congrArg State.returnFromInterrupt h

theorem untimed_timerActive (s : State) : s.untimed.timerActive = s.timerActive := by
  cases hd : s.draining with
  | false => rw [untimed_of_not_draining hd]; rfl
  | true => rw [untimed_of_draining hd]; rfl

theorem untimed_raiseTick (s : State) : s.raiseTick.untimed = s.untimed.raiseTick := by
  cases hd : s.draining with
  | false => rw [untimed_of_not_draining hd, untimed_of_not_draining (s := s.raiseTick) hd]; rfl
  | true => rw [untimed_of_draining hd, untimed_of_draining (s := s.raiseTick) hd]; rfl

/-! ### Runs of the timer and the transmitter between untimed parts -/

/-- Some steps of the timer and the transmitter take the untimed part of `s` to that of `t`. -/
def UntimedRun (s t : State) : Prop :=
  ∃ l : List Instr, (∀ i ∈ l, isHandlerStep i = true) ∧ execAll l s.untimed = .next t.untimed

theorem UntimedRun.of_eq (h : t.untimed = s.untimed) : UntimedRun s t :=
  ⟨[], nofun, by rw [h]; rfl⟩

theorem UntimedRun.single {i : Instr} (hi : isHandlerStep i = true) (h : exec i s.untimed = .next t.untimed) :
    UntimedRun s t := by
  refine ⟨[i], fun j hj => List.mem_singleton.1 hj ▸ hi, ?_⟩
  change andThen (exec i s.untimed) (forEach exec []) = _
  rw [h, andThen_next, forEach_nil]

/-- The steps of two lists one after the other. -/
theorem execAll_append {l k : List Instr} (hl : execAll l s = .next t) (hk : execAll k t = .next u) :
    execAll (l ++ k) s = .next u := by
  induction l generalizing s with
  | nil => cases hl; exact hk
  | cons i l ih =>
    obtain ⟨v, hv, hrest⟩ := andThen_eq_next.1 hl
    change andThen (exec i s) (execAll (l ++ k)) = _
    rw [hv, andThen_next]
    exact ih hrest

theorem UntimedRun.trans (h : UntimedRun s t) (k : UntimedRun t u) : UntimedRun s u := by
  obtain ⟨l, hl, hrun⟩ := h
  obtain ⟨m, hm, hrun'⟩ := k
  exact ⟨l ++ m, fun i hi => (List.mem_append.1 hi).elim (hl i) (hm i), execAll_append hrun hrun'⟩

/-! ### The parts of a clock cycle (R100, R108) -/

/-- The marked last hold still runs: its end, where it is due, has been made. -/
def State.HoldRuns (s : State) : Prop := s.draining = true → s.seq = .low 15 ∧ s.hold ≠ 0

theorem State.DrainFits.draining_eq_false (h : s.DrainFits) (hne : s.seq ≠ .low 15) : s.draining = false :=
  Bool.eq_false_iff.2 fun hd => hne (h hd)

/-- The mark is off wherever the transmitter is not in slot 15's TX_LOW, and wherever a port write is due. -/
theorem State.HoldRuns.draining_eq_false (h : s.HoldRuns) (hne : s.seq ≠ .low 15 ∨ s.hold = 0) :
    s.draining = false :=
  Bool.eq_false_iff.2 fun hd => hne.elim (· (h hd).1) (h hd).2

theorem drainFits_timerCycle (h : s.DrainFits) : (timerCycle s).DrainFits := by
  obtain ⟨-, -, e⟩ | ⟨-, -, e⟩ | ⟨-, e⟩ := timerCycle_cases s <;> rw [e] <;> exact h

/-- A match is TIMER_MATCH; a count is no step of the untimed view. -/
theorem untimedRun_timerCycle (s : State) : UntimedRun s (timerCycle s) := by
  obtain ⟨hon, -, e⟩ | ⟨-, -, e⟩ | ⟨-, e⟩ := timerCycle_cases s
  · refine .single (i := .timerMatch) rfl ?_
    rw [e, untimed_raiseTick]
    exact execTimerMatch_enabled ((untimed_timerActive s).trans hon)
  · rw [e]
    exact .of_eq (untimed_congr rfl rfl)
  · exact .of_eq (by rw [e])

/-- The end of the last hold is no step: the untimed view has returned before. -/
theorem untimedRun_endCycle (s : State) : UntimedRun s (endCycle s) := by
  obtain ⟨hd, -, e⟩ | ⟨-, e⟩ := endCycle_cases s
  · refine .of_eq ?_
    rw [e, untimed_of_draining hd]
    exact untimed_of_not_draining rfl
  · exact .of_eq (by rw [e])

theorem holdRuns_endCycle (h : s.DrainFits) : (endCycle s).HoldRuns := by
  obtain ⟨-, -, e⟩ | ⟨hrun, e⟩ := endCycle_cases s
  · rw [e]
    exact nofun
  · rw [e]
    exact fun hd => ⟨h hd, hrun.resolve_left (by simp [hd])⟩

/-- A tick taken is TX_START. -/
theorem untimedRun_startCycle (h : s.HoldRuns) (take : Bool) : UntimedRun s (startCycle take s) := by
  obtain ⟨-, hidle, hpend, hirq, e⟩ | ⟨-, e⟩ := startCycle_cases take s
  · have hd : s.draining = false := h.draining_eq_false (.inl (by simp [hidle]))
    refine .single (i := .txStart) rfl ?_
    rw [e, untimed_of_not_draining hd, untimed_of_not_draining (s := s.takeInterrupt.setHold _) hd]
    exact execTxStart_enabled (s := s.timeless) hidle hpend hirq
  · exact .of_eq (by rw [e])

theorem holdRuns_startCycle (h : s.HoldRuns) (take : Bool) : (startCycle take s).HoldRuns := by
  obtain ⟨-, hidle, -, -, e⟩ | ⟨-, e⟩ := startCycle_cases take s
  · have hd : s.draining = false := h.draining_eq_false (.inl (by simp [hidle]))
    rw [e]
    exact fun hd' => absurd (hd.symm.trans hd') (by simp)
  · rwa [e]

/-- A port write that falls due is the micro-operation `seq` names; after that of TX_LOW(15) the mark is set, and the
untimed view returns at once. -/
theorem untimedRun_portCycle (h : s.HoldRuns) : UntimedRun s (portCycle s) := by
  by_cases h0 : s.hold = 0
  · have hd : s.draining = false := h.draining_eq_false (.inr h0)
    cases hseq : s.seq with
    | idle => exact .of_eq (by rw [portCycle_idle hseq])
    | high i =>
      refine .single (i := .txHigh i) rfl ?_
      rw [portCycle_high h0 hseq, untimed_of_not_draining hd,
        untimed_of_not_draining (s := (txHighEffect i s).setHold _) hd]
      exact execTxHigh_enabled (s := s.timeless) hseq
    | data i =>
      refine .single (i := .txData i) rfl ?_
      rw [portCycle_data h0 hseq, untimed_of_not_draining hd,
        untimed_of_not_draining (s := (txDataEffect i s).setHold _) hd]
      exact execTxData_enabled (s := s.timeless) hseq
    | low i =>
      refine .single (i := .txLow i) rfl ?_
      rw [untimed_of_not_draining hd]
      refine (execTxLow_enabled (s := s.timeless) hseq).trans ?_
      cases hj : nextPos i with
      | some j =>
        rw [portCycle_low h0 hseq hj, untimed_of_not_draining (s := ((txLowPort s).setSeq _).setHold _) hd,
          txLowAdvance, hj]
        rfl
      | none =>
        obtain rfl := nextPos_none hj
        rw [portCycle_last h0 hseq, untimed_of_draining (s := ((txLowPort s).setDraining true).setHold _) rfl]
        rfl
  · exact .of_eq (by rw [portCycle_of_hold h0])

/-- One clock cycle is a run of the untimed view. -/
theorem untimedRun_cycle (h : s.DrainFits) (take : Bool) : UntimedRun s (s.cycle take) := by
  have hfits : s.counted.DrainFits := drainFits_timerCycle h
  have hruns := holdRuns_endCycle hfits
  have hhold : UntimedRun (timerCycle s) s.counted := .of_eq (untimed_congr rfl rfl)
  rw [cycle_eq]
  exact (untimedRun_timerCycle s).trans <| hhold.trans <| (untimedRun_endCycle _).trans <|
    (untimedRun_startCycle hruns take).trans (untimedRun_portCycle (holdRuns_startCycle hruns take))

end

end Sys2Proof.Machine

namespace Sys2Proof.Proofs
open Sys2Proof Sys2Proof.Machine

/-- Settles O60: the parts of a cycle run one after the other, each a step of the untimed view or none. -/
theorem timedCycleIsUntimedSteps : Obligations.TimedCycleIsUntimedSteps := fun _ take h => untimedRun_cycle h take

end Sys2Proof.Proofs
end

section
/-! PROOFS. The torn frame (R146): the word a transmission puts on an attached pin is that pin's column at TX_START, and
the first `k` updates of a SET_THROTTLE replace the first `k` positions of one column and nothing else. -/

namespace Sys2Proof.Machine

/-! ### The word of a transmission by the column it reads (R107) -/

/-- A transmission can start and pin `q` is attached. -/
structure State.Sends (s : State) (q : Pin) : Prop where
  idle : s.seq = .idle
  pending : s.tickPending = true
  enabled : s.irqEn = true
  attached : s.attached q = true

section
variable {s t : State} {q : Pin}

theorem State.Sends.congr (h : s.Sends q) (hseq : t.seq = s.seq) (hpend : t.tickPending = s.tickPending)
    (hirq : t.irqEn = s.irqEn) (hatt : t.attachedPins = s.attachedPins) : t.Sends q :=
  ⟨hseq.trans h.idle, hpend.trans h.pending, hirq.trans h.enabled, (attached_congr hatt q).trans h.attached⟩

/-- The data level of slot `i` is the column's bit (R106), in every state, whatever the packet says. -/
theorem dataLevel_transmission (h : s.Sends q) (i : Pos) : dataLevel (transmission s) q i = s.storeBit i q := by
  rw [transmission_eq h.idle h.pending h.enabled, dataLevel, getElem?_levels s i (r := 1) (by decide)]
  change ((s.portBefore i ||| s.attachedPins) &&& s.memRead i).getLsbD q = _
  rw [and_memRead_getLsbD, or_attachedPins_getLsbD, h.attached, Bool.or_true, Bool.true_and]

theorem frameBit_wordOnPin (h : s.Sends q) (i : Pos) : frameBit (wordOnPin (transmission s) q) i = s.storeBit i q :=
  (frameBit_foldl_shiftIn _ i).trans (dataLevel_transmission h i)

/-- The same column, the same word. -/
theorem wordOnPin_congr (hs : s.Sends q) (ht : t.Sends q) (h : ∀ i : Pos, t.storeBit i q = s.storeBit i q) :
    wordOnPin (transmission t) q = wordOnPin (transmission s) q :=
  frame_ext fun i => by rw [frameBit_wordOnPin ht, frameBit_wordOnPin hs, h]

end

/-! ### The top of one frame over the rest of another -/

/-- `0xFFFF >> k` covers the positions from `k` on. -/
theorem frameBit_ones_shiftRight (k : Nat) (i : Pos) : frameBit (0xFFFF#16 >>> k) i = decide (k ≤ i) := by
  change ((BitVec.allOnes 16) >>> k).getLsbD (15 - i) = _
  rw [BitVec.getLsbD_ushiftRight, BitVec.getLsbD_allOnes]
  have := i.isLt
  exact decide_eq_decide.2 (by omega)

theorem frameBit_torn (f g : Frame) (k : Nat) (i : Pos) :
    frameBit ((f &&& ~~~ (0xFFFF#16 >>> k)) ||| (g &&& (0xFFFF#16 >>> k))) i =
      if (i : Nat) < k then frameBit f i else frameBit g i := by
  have hlt : 15 - (i : Nat) < 16 := by omega
  have hones := frameBit_ones_shiftRight k i
  unfold frameBit at hones ⊢
  rw [BitVec.getLsbD_or, BitVec.getLsbD_and, BitVec.getLsbD_and, BitVec.getLsbD_not, hones]
  by_cases hi : (i : Nat) < k
  · simp [hi, hlt, Nat.not_le.2 hi]
  · simp [hi, Nat.not_lt.1 hi]

/-! ### The first updates of a SET_THROTTLE (R87) -/

/-- What the updates of the positions below `k` leave of `s`: the packet in column `cmd_pin` below `k`, stage S_UPD at
`k` while positions are left, and the rest as it was, but for the response. -/
structure State.UpdatedBelow (s : State) (k : Nat) (t : State) : Prop where
  frame : t = { s with bitPlane := t.bitPlane, hst := t.hst, rsp := t.rsp, rspValid := t.rspValid }
  stage : ∀ h : k < 16, t.hst = .upd ⟨k, h⟩
  bit : ∀ (i : Pos) (q : Pin), t.storeBit i q =
    if q = s.cmdPin ∧ (i : Nat) < k then frameBit (s.packet s.cmdPin) i else s.storeBit i q

section
variable {s t : State} {q : Pin}

theorem updatedBelow_zero (hhst : s.hst = .upd 0) : s.UpdatedBelow 0 s where
  frame := rfl
  stage _ := hhst
  bit i q := by simp

/-- The updates below `k`, then that of position `k`. -/
theorem State.UpdatedBelow.advance {k : Pos} (h : s.UpdatedBelow k t) :
    s.UpdatedBelow (k + 1) (advanceUpd k (t.memWrite k (updatedEntry t k))) where
  frame := by
    rw [advanceUpd_eq, h.frame]
    rfl
  stage hk := by
    rw [advanceUpd_eq]
    exact dif_pos (Nat.lt_of_succ_lt_succ hk)
  bit i q := by
    have hstore := memRead_congr (advanceUpd_bitPlane k (t.memWrite k (updatedEntry t k)))
    have hpin : t.cmdPin = s.cmdPin := by rw [h.frame]
    have hpacket : t.packet s.cmdPin = s.packet s.cmdPin := packet_congr (by rw [h.frame]) _
    rw [storeBit_congr hstore, storeBit_update, h.bit, hpin, hpacket]
    by_cases hi : i = k
    · subst hi
      simp [and_comm]
    · have hbelow : (i : Nat) < k + 1 ↔ (i : Nat) < k := by
        have := Fin.val_ne_of_ne hi
        omega
      simp [hi, hbelow]

/-- From stage S_UPD at 0 the first `k` updates all run. -/
theorem execAll_stUpd_take (hhst : s.hst = .upd 0) (hidle : s.seq = .idle) {k : Nat} (hk : k ≤ 16) :
    ∃ t, execAll ((positions.take k).map .stUpd) s = .next t ∧ s.UpdatedBelow k t := by
  induction k with
  | zero => exact ⟨s, rfl, updatedBelow_zero hhst⟩
  | succ k ih =>
    obtain ⟨t, hrun, ht⟩ := ih (Nat.le_of_succ_le hk)
    have hlast := execStUpd_enabled (ht.stage hk) (by rw [ht.frame, hidle])
    refine ⟨_, ?_, ht.advance (k := ⟨k, hk⟩)⟩
    rw [List.take_add_one, getElem?_positions ⟨k, hk⟩, List.map_append]
    exact execAll_append hrun (andThen_eq_next.2 ⟨_, hlast, rfl⟩)

theorem State.UpdatedBelow.sends {k : Nat} (h : s.UpdatedBelow k t) (hs : s.Sends q) : t.Sends q :=
  hs.congr (by rw [h.frame]) (by rw [h.frame]) (by rw [h.frame]) (by rw [h.frame])

/-- The word on the pin being updated is torn at `k`. -/
theorem State.UpdatedBelow.wordOnPin_cmdPin {k : Nat} (h : s.UpdatedBelow k t) (hs : s.Sends s.cmdPin) :
    wordOnPin (transmission t) s.cmdPin = ((s.packet s.cmdPin &&& ~~~ (0xFFFF#16 >>> k)) |||
      (wordOnPin (transmission s) s.cmdPin &&& (0xFFFF#16 >>> k))) :=
  frame_ext fun i => by
    rw [frameBit_torn, frameBit_wordOnPin (h.sends hs), frameBit_wordOnPin hs, h.bit]
    simp only [true_and]

theorem State.UpdatedBelow.wordOnPin_other {k : Nat} (h : s.UpdatedBelow k t) (hs : s.Sends q) (hq : q ≠ s.cmdPin) :
    wordOnPin (transmission t) q = wordOnPin (transmission s) q :=
  wordOnPin_congr hs (h.sends hs) fun i => by rw [h.bit, if_neg fun hc => hq hc.1]

end

/-! ### ISSUE and ST_LATCH of SET_THROTTLE (R80, R86) -/

section
variable (s : State) (p : Pin) (v : Throttle)

/-- The state ISSUE of SET_THROTTLE `p, v` leaves. -/
def State.throttleIssued : State := (((s.setCmd none).latchPin p).latchThrottle v).setHst .latch

/-- The state ST_LATCH leaves after it. -/
def State.throttleLatched : State := ((s.throttleIssued p v).setChannel p v (encodeFrame v)).setHst (.upd 0)

variable {s p v}

theorem execIssue_setThrottle (hhst : s.hst = .ready) (hidle : s.seq = .idle) (hp : s.attached p = true)
    (hcmd : s.cmd = some (cmdWord 0b10 p v)) : execIssue s = .next (s.throttleIssued p v) :=
  (execIssue_of_cmd hcmd).trans (issueWord_word_setThrottle (s := s.setCmd none) hhst hidle hp)

theorem execStLatch_throttleIssued (hidle : s.seq = .idle) :
    execStLatch (s.throttleIssued p v) = .next (s.throttleLatched p v) :=
  execStLatch_enabled (s := s.throttleIssued p v) rfl hidle

theorem packet_throttleLatched : (s.throttleLatched p v).packet p = encodeFrame v :=
  packet_setChannel_same (s.throttleIssued p v) p v (encodeFrame v)

/-! Neither writes the store, so the words on the pins stay what they were. -/

theorem State.Sends.throttleIssued {q : Pin} (h : s.Sends q) : (s.throttleIssued p v).Sends q := h.congr rfl rfl rfl rfl

theorem State.Sends.throttleLatched {q : Pin} (h : s.Sends q) : (s.throttleLatched p v).Sends q :=
  h.congr rfl rfl rfl rfl

theorem wordOnPin_throttleIssued {q : Pin} (h : s.Sends q) :
    wordOnPin (transmission (s.throttleIssued p v)) q = wordOnPin (transmission s) q :=
  wordOnPin_congr h h.throttleIssued fun _ => rfl

theorem wordOnPin_throttleLatched {q : Pin} (h : s.Sends q) :
    wordOnPin (transmission (s.throttleLatched p v)) q = wordOnPin (transmission s) q :=
  wordOnPin_congr h h.throttleLatched fun _ => rfl

end

end Sys2Proof.Machine

namespace Sys2Proof.Proofs
open Sys2Proof Sys2Proof.Machine

/-- Settles O44: ISSUE and ST_LATCH leave the words as they were, and the first `k` updates tear one of them at `k`. -/
theorem tornFrame : Obligations.TornFrame := by
  intro s p v hhst hidle hpend hirq hp hcmd
  have hsends {q : Pin} (hq : s.attached q = true) : s.Sends q := ⟨hidle, hpend, hirq, hq⟩
  have hissue : exec .issue s = .next (s.throttleIssued p v) := execIssue_setThrottle hhst hidle hp hcmd
  refine ⟨⟨_, hissue, fun q hq => wordOnPin_throttleIssued (hsends hq)⟩, fun k hk => ?_⟩
  obtain ⟨u, hupd, hu⟩ := execAll_stUpd_take (s := s.throttleLatched p v) rfl hidle hk
  have hrun : execAll (.issue :: .stLatch :: (positions.take k).map .stUpd) s = .next u :=
    andThen_eq_next.2 ⟨_, hissue, andThen_eq_next.2 ⟨_, execStLatch_throttleIssued hidle, hupd⟩⟩
  refine ⟨u, hrun, ?_, fun q hne hq => ?_⟩
  · rw [← wordOnPin_throttleLatched (v := v) (p := p) (hsends hp), ← packet_throttleLatched (s := s) (p := p)]
    exact hu.wordOnPin_cmdPin (hsends hp).throttleLatched
  · exact (hu.wordOnPin_other (hsends hq).throttleLatched hne).trans (wordOnPin_throttleLatched (hsends hq))

end Sys2Proof.Proofs
end

section
/-! PROOFS. A word placed in the machine is the word its next move reads (R55, R56, log 2); a step without a word is one
clock cycle (logs 2 and 15). -/

namespace Sys2Proof

/-- The bits of a table word are read in one format and decoded there. -/
theorem decodeTableWord_eq_some {nbits w : Nat} {i : Instr} :
    decodeTableWord nbits w = some i ↔ ∃ fw, tableWord nbits w = some fw ∧ decode fw = .ok i := by
  unfold decodeTableWord
  cases tableWord nbits w with
  | none => simp
  | some fw => cases hfw : decode fw <;> simp [hfw]

end Sys2Proof

namespace Sys2Proof.Machine

/-! ### Where a word is placed -/

/-- The next move of `s`, before the moves `rest`, reads the word `w`. -/
def State.ReadsNext (s : State) (rest : List Move) (w : FetchWord) : Prop :=
  ∃ m, s.sched = m :: rest ∧ (s.accept m rest).fetch m = some w

/-- The next step is the meaning of the word the next move reads. -/
theorem State.ReadsNext.step_eq_exec {s : State} {rest : List Move} {w : FetchWord} {i : Instr} (h : s.ReadsNext rest w)
    (hdecode : decode w = .ok i) : ∃ m, s.sched = m :: rest ∧ step s = exec i (s.accept m rest) := by
  obtain ⟨m, hsched, hfetch⟩ := h
  exact ⟨m, hsched, Proofs.stepRunsTheDecodedStep s m rest w i hsched hfetch hdecode⟩

section
variable (s : State)

/-- ISSUE is read by the move that writes the command port, the other micro-steps by the host's. -/
theorem placeHst_readsNext (h : Hst) : (s.placeHst h).ReadsNext s.sched (.hst7 h.toBits) := by
  cases h with
  | ready => exact ⟨.issue s.wordToIssue, rfl, rfl⟩
  | setup | init | reg | latch | upd | enc => exact ⟨.host, rfl, rfl⟩

theorem placeSeq_readsNext (q : Seq) : (s.placeSeq q).ReadsNext s.sched (.seq6 q.toBits) := by
  cases q <;> exact ⟨.transmitter, rfl, rfl⟩

theorem placeWord_hst7 (h : Hst) : s.placeWord (.hst7 h.toBits) = s.placeHst h := by
  simp only [State.placeWord, Hst.ofBits_toBits]

theorem placeWord_seq6 (q : Seq) : s.placeWord (.seq6 q.toBits) = s.placeSeq q := by
  simp only [State.placeWord, Seq.ofBits_toBits]

/-- A word that stands for a step is read next where it is placed: such a word is a value a sequencer can hold, and the
timer reads its strobe as 1. -/
theorem placeWord_readsNext {w : FetchWord} {i : Instr} (hdecode : decode w = .ok i) :
    (s.placeWord w).ReadsNext s.sched w := by
  cases w with
  | cmd16 c => exact ⟨.command c, rfl, rfl⟩
  | hst7 b =>
    obtain ⟨h, hbits, -⟩ := decodeHst_eq_ok.1 hdecode
    obtain rfl := Hst.toBits_of_ofBits hbits
    rw [placeWord_hst7]
    exact placeHst_readsNext s h
  | seq6 b =>
    obtain ⟨q, hbits, -⟩ := decodeSeq_eq_ok.1 hdecode
    obtain rfl := Seq.toBits_of_ofBits hbits
    rw [placeWord_seq6]
    exact placeSeq_readsNext s q
  | evt1 b =>
    obtain rfl : b = 1 := eq_of_beq ((decode_evt1_ok_iff_wf b).1 ⟨i, hdecode⟩)
    exact ⟨.timer, rfl, rfl⟩
  | env8 v => exact ⟨.env v, rfl, rfl⟩

theorem withFetchWord_of_tableWord {nbits w : Nat} {fw : FetchWord} (h : tableWord nbits w = some fw) :
    s.withFetchWord nbits w = s.placeWord fw := by
  simp only [State.withFetchWord, h]

end

/-! ### A step without a word (logs 2 and 15) -/

theorem step_of_sched_nil {s : State} (h : s.sched = []) : step s = .next (s.cycle true) := by
  simp only [step, h]

theorem step_clock {s : State} {take : Bool} {rest : List Move} (h : s.sched = .clock take :: rest) :
    step s = .next ((s.setSched rest).cycle take) := step_of_sched h

end Sys2Proof.Machine

namespace Sys2Proof.Proofs
open Sys2Proof Sys2Proof.Machine

/-- Settles O10: the table word is placed as a word of its format, which the next move reads and runs. -/
theorem placedWordRunsNext : Obligations.PlacedWordRunsNext := by
  intro s nbits w i htable
  obtain ⟨fw, hfw, hdecode⟩ := decodeTableWord_eq_some.1 htable
  rw [withFetchWord_of_tableWord s hfw]
  exact (placeWord_readsNext s hdecode).step_eq_exec hdecode

/-- Settles O9. -/
theorem stepWithoutAWordIsACycle : Obligations.StepWithoutAWordIsACycle := fun _ =>
  ⟨step_of_sched_nil, fun _ _ => step_clock⟩

end Sys2Proof.Proofs
end

section
/-! PROOFS. A step that is not enabled is refused under its name, and a whole command under ISSUE's (R38, log 6). -/

namespace Sys2Proof.Machine

/-- A step whose Boolean condition says `P` is refused under its name where `P` does not hold. -/
theorem whenEnabled_notEnabled {c : Bool} {P : Prop} {name : String} {s' : State} (h : c = true ↔ P) (hp : ¬P) :
    whenEnabled c name s' = .refused (.notEnabled name) := if_neg (mt h.1 hp)

section
variable {s : State}

theorem whenEnabled_hostAt_notEnabled {h : Hst} {name : String} {s' : State} (hne : s.hst ≠ h ∨ s.seq ≠ .idle) :
    whenEnabled (s.hostAt h) name s' = .refused (.notEnabled name) :=
  whenEnabled_notEnabled (hostAt_iff s h) (not_and_or.2 hne)

/-! ### ISSUE and the whole commands (R50, R80, R140) -/

theorem issueWord_notEnabled (w : CmdWord) (hne : s.hst ≠ .ready ∨ s.seq ≠ .idle) :
    issueWord w s = .refused (.notEnabled "ISSUE") := if_neg (mt (cmdReady_iff s).1 (not_and_or.2 hne))

theorem execIssue_of_no_cmd (h : s.cmd = none) : execIssue s = .refused (.notEnabled "ISSUE") := by
  simp only [execIssue, h]

/-- ISSUE where `cmd_ready` is 0 is refused alike, whether or not a word is presented. -/
theorem execIssue_notEnabled (hne : s.hst ≠ .ready ∨ s.seq ≠ .idle) :
    execIssue s = .refused (.notEnabled "ISSUE") := by
  cases hcmd : s.cmd with
  | none => exact execIssue_of_no_cmd hcmd
  | some w => exact (execIssue_of_cmd hcmd).trans (issueWord_notEnabled (s := s.setCmd none) w hne)

/-- A whole command is refused as the ISSUE it starts with is. -/
theorem command_of_refused {c : Command} {r : Refusal} (h : issueWord c.word s = .refused r) :
    exec c.instr s = .refused r := by
  cases c with
  | attach p => exact execAttach_of_refused h
  | setThrottle p v => exact execSetThrottle_of_refused h
  | encode v => exact congrArg (andThen · execEncExec) h

theorem command_notEnabled (c : Command) (hne : s.hst ≠ .ready ∨ s.seq ≠ .idle) :
    exec c.instr s = .refused (.notEnabled "ISSUE") := command_of_refused (issueWord_notEnabled c.word hne)

/-! ### The transmitter, the timer and the environment (R100, R102 to R105, R109) -/

theorem execTxStart_notEnabled (hne : s.seq ≠ .idle ∨ s.tickPending = false ∨ s.irqEn = false) :
    execTxStart s = .refused (.notEnabled "TX_START") := by
  refine whenEnabled_notEnabled (tickTaken_iff s) ?_
  rintro ⟨hidle, hpend, hirq⟩
  simp [hidle, hpend, hirq] at hne

theorem whenEnabled_txAt_notEnabled {q : Seq} {name : String} {s' : State} (hne : s.seq ≠ q) :
    whenEnabled (s.txAt q) name s' = .refused (.notEnabled name) := whenEnabled_notEnabled (txAt_iff s q) hne

theorem execTimerMatch_notEnabled (hoff : s.timerActive = false) :
    execTimerMatch s = .refused (.notEnabled "TIMER_MATCH") :=
  whenEnabled_notEnabled (timerRuns_iff s) (Bool.eq_false_iff.1 hoff)

theorem execEnvPort_notEnabled (hne : s.seq ≠ .idle) (v : Mask) :
    execEnvPort v s = .refused (.notEnabled "ENV_PORT") := whenEnabled_notEnabled (envMayMove_iff s) hne

end

end Sys2Proof.Machine

namespace Sys2Proof.Proofs
open Sys2Proof Sys2Proof.Machine

/-- Settles O29, in its order: ISSUE and the commands, the host's micro-steps by `hst`, the transmitter's by `seq`, and
the two events. -/
theorem notEnabledIsRefused : Obligations.NotEnabledIsRefused := by
  intro s
  refine ⟨fun hne => ⟨execIssue_notEnabled hne, fun p => command_notEnabled (.attach p) hne,
      fun p v => command_notEnabled (.setThrottle p v) hne, fun v => command_notEnabled (.encode v) hne⟩,
    execIssue_of_no_cmd, ?atSetup, ?atInit, ?atReg, ?stLatch, fun i => ?stUpd, ?encExec, execTxStart_notEnabled,
    fun i => ?txHigh, fun i => ?txData, fun i => ?txLow, execTimerMatch_notEnabled, execEnvPort_notEnabled⟩
  case atSetup | atInit | atReg | stLatch | stUpd | encExec => exact whenEnabled_hostAt_notEnabled
  case txHigh | txData | txLow => exact whenEnabled_txAt_notEnabled

end Sys2Proof.Proofs
end
